-- ==== Sys2Proof/Word.lean ====
section
/-! DEFINITION. The word types of the block: 32-bit register words (R21), bytes, source indices (R22). -/

namespace Sys2Proof

/-- A register word of the block (R21). -/
abbrev Word := BitVec 32

/-- One byte lane of a word, one byte of a burst, one byte of guest memory (R83, R112). -/
abbrev Byte := BitVec 8

/-- The index of one of the 256 interrupt sources (R22). -/
abbrev SourceIndex := Fin 256

/-- A byte offset inside a word, `OFF[1:0]` of the descriptor (R111, R157). -/
abbrev Lane := Fin 4

/-- A byte offset as the descriptor carries it, `OFF[11:0]` (R111). -/
abbrev Offset := Fin 4096

/-- A cursor of the receive ring, 0..8191 (R34). Its `+` and `-` are modulo 8192. -/
abbrev Cursor := Fin 8192

end Sys2Proof
end

