-- ==== Sys2Proof/Config.lean ====
section
/-! DEFINITION. The implementation parameters of the block (R6) as plain data, and the window bases and the one open
answer as opaque constants.
`State` carries a `Params` that no operation changes: a statement about every state is a statement about every value of the
OPEN parameters (log 4). -/

namespace Sys2Proof

/-- What a transmit write does while an item is pending (R6, R368, D40). -/
inductive TxBusyPolicy where
  | overwrite
  | drop
  deriving DecidableEq, Repr

/-- The parameters of R6 that some rule reads. -/
structure Params where
  /-- `RESET_INDEX`: the source that qualifies while disabled (R202, D6). -/
  resetIndex : SourceIndex
  /-- `TIMER_SRC` (D5). -/
  timerSrc : SourceIndex
  /-- `UART_RX_SRC` (D5). -/
  uartRxSrc : SourceIndex
  /-- `UART_TX_SRC` (D5). -/
  uartTxSrc : SourceIndex
  /-- `UART_ERR_SRC` (D5). -/
  uartErrSrc : SourceIndex
  /-- The size of the router's window in bytes: 0x400, or more on a platform with a larger one (R80, R207, D58; log 6). -/
  irWindow : Nat
  /-- `F_IN0` in Hz (D12). -/
  fIn0 : Nat
  /-- `F_IN1` in Hz (D12). -/
  fIn1 : Nat
  /-- `TRANSPORT_PRESENT` (D55, D56). -/
  transportPresent : Bool
  /-- `TX_BUSY_POLICY` (D40). -/
  txBusy : TxBusyPolicy
  /-- `BLK_PRESENT` (D42). -/
  blkPresent : Bool
  /-- `BLK_ADDR_OFF`, a word offset of the UART window, read only where `blkPresent` (D42). -/
  blkAddrOff : Nat
  /-- `BLK_LEN_OFF`, a word offset of the UART window, read only where `blkPresent` (D42). -/
  blkLenOff : Nat
  /-- `STM_ID` (D53). -/
  stmId : Word
  /-- `UART_ID` (D53). -/
  uartId : Word
  deriving DecidableEq, Repr

/-- The premises of 95_test_vectors.md section 1, and the reference values of R6. DESIGN CHOICE (log 4), unsafe for a statement
about `State.reset` alone: the OPEN parameters have no value of the spec's own. -/
def Params.reference : Params where
  resetIndex := 255
  timerSrc := 10
  uartRxSrc := 20
  uartTxSrc := 21
  uartErrSrc := 22
  irWindow := 0x400
  fIn0 := 100000000
  fIn1 := 20000000
  transportPresent := true
  txBusy := .overwrite
  blkPresent := false
  blkAddrOff := 0
  blkLenOff := 0
  stmId := 0x0000C000#32
  uartId := 0x00C4C000#32

/-- A word offset of the UART window that holds no declared register (R150). -/
abbrev Params.uartFreeWord (off : Nat) : Prop := off % 4 = 0 ∧ 0x54 ≤ off ∧ off ≤ 0xE4

/-- The constraints the spec puts on the parameters: the four owned indices are pairwise distinct (D5, R209), the router's window
holds the 256 source words and fits the 12-bit offset (R80, R120, R111), and a present block-transfer pair sits at two free word
offsets (D42; log 6, log 20). -/
abbrev Params.wf (p : Params) : Prop :=
  (p.timerSrc ≠ p.uartRxSrc ∧ p.timerSrc ≠ p.uartTxSrc ∧ p.timerSrc ≠ p.uartErrSrc ∧
    p.uartRxSrc ≠ p.uartTxSrc ∧ p.uartRxSrc ≠ p.uartErrSrc ∧ p.uartTxSrc ≠ p.uartErrSrc) ∧
  (p.irWindow % 4 = 0 ∧ 0x400 ≤ p.irWindow ∧ p.irWindow ≤ 0x1000) ∧
  (p.blkPresent = true →
    Params.uartFreeWord p.blkAddrOff ∧ Params.uartFreeWord p.blkLenOff ∧ p.blkAddrOff ≠ p.blkLenOff)

namespace Config

/-- `IR_BASE`, the bus address of the router's offset 0: OPEN, no value (R92, D4; log 5). -/
opaque irBase : Nat

/-- `CCU_BASE`: OPEN, no value (R92, D4; log 5). -/
opaque ccuBase : Nat

/-- `STM_BASE`: OPEN, no value (R92, D4; log 5). -/
opaque stmBase : Nat

/-- `UART_BASE`: OPEN, no value (R92, D4; log 5). -/
opaque uartBase : Nat

/-- Whether arming the timer's alarm reports what its frequency query meets: left open, R317 says no, R232 and R400 say yes (log 26). -/
opaque armingReports : Bool

end Config

end Sys2Proof
end

