-- ==== Sys2Proof/Machine/Bits.lean ====
section
/-! DEFINITION. The bit-field notation of R7: the field `v[hi:lo]` as an unsigned number, one bit `v[i]`, and the word
`b ? 1 << i : 0` that the read rules of the status registers are built from. -/

namespace Sys2Proof.Machine

/-- `v[hi:lo]`: the bits `hi` down to `lo` of `v` as an unsigned number (R7). -/
def bits (hi lo : Nat) (v : Word) : Nat := v.toNat / 2 ^ lo % 2 ^ (hi + 1 - lo)

/-- `v[i]` (R7). -/
def bit (i : Nat) (v : Word) : Bool := v.getLsbD i

/-- `b ? 1 << i : 0`, a term of the read rules R205, R236, R242, R297, R331. -/
def flagAt (i : Nat) (b : Bool) : Word := if b then 1#32 <<< i else 0#32

/-- The 4-bit field `v[lo+3:lo]`, a domain divider (R134, R135). -/
def divider (lo : Nat) (v : Word) : BitVec 4 := v.extractLsb' lo 4

/-- The exact quotient rounded up, `ceil(a / b)` (R7). -/
def ceilDiv (a b : Nat) : Nat := (a + b - 1) / b

end Sys2Proof.Machine
end

