-- ==== Sys2Proof/Machine/Memory.lean ====
section
/-! DEFINITION. Byte memory as a list of cells in one canonical form: addresses strictly rising, no cell that holds what an unlisted
address reads as. Used for guest memory (R81, R98) and for the UART's receive ring (R34). -/

namespace Sys2Proof.Machine

/-- A byte memory: the cells that differ from `Memory.unlisted`. -/
abbrev Memory := List Host.Cell

/-- What an unlisted address reads as. For the ring it is the reset value of R42 and R455; for guest memory, whose contents are
outside the block (R81), it is a DESIGN CHOICE, unsafe (log 11). -/
def Memory.unlisted : Byte := 0#8

/-- The byte at address `a`. -/
def Memory.read (m : Memory) (a : Nat) : Byte :=
  match m with
  | [] => Memory.unlisted
  | c :: rest => if c.1 = a then c.2 else Memory.read rest a

/-- The cells of `m` without those at `a`. -/
def Memory.erase (m : Memory) (a : Nat) : Memory :=
  m.filter fun c => c.1 ≠ a

/-- `m` with the cell `c` put before the first cell of a greater address. -/
def Memory.insert (c : Host.Cell) : Memory → Memory
  | [] => [c]
  | d :: rest => if c.1 < d.1 then c :: d :: rest else d :: Memory.insert c rest

/-- `m` after the byte `v` is stored at `a`. -/
def Memory.write (m : Memory) (a : Nat) (v : Byte) : Memory :=
  if v = Memory.unlisted then Memory.erase m a else Memory.insert (a, v) (Memory.erase m a)

/-- `m` after the stores `cs`, oldest first. -/
def Memory.writeAll (m : Memory) : List Host.Cell → Memory
  | [] => m
  | c :: rest => Memory.writeAll (Memory.write m c.1 c.2) rest

/-- The cells lie at strictly rising addresses from `lo` on, and none holds what an unlisted address reads as. -/
def Memory.risingFrom (lo : Nat) : Memory → Bool
  | [] => true
  | c :: rest => lo ≤ c.1 && c.2 ≠ Memory.unlisted && Memory.risingFrom (c.1 + 1) rest

/-- The canonical form. -/
def Memory.wf (m : Memory) : Bool := Memory.risingFrom 0 m

/-- Every listed address lies below `n`. -/
def Memory.below (m : Memory) (n : Nat) : Bool := m.all fun c => c.1 < n

end Sys2Proof.Machine
end

