-- ==== Sys2Proof/Machine/Block.lean ====
section
/-! DEFINITION. The architectural state of the block, 10_state.md but for the trace: the four units and the virtual time. It is what
SNAPSHOT returns and RESTORE takes (R472, R473). The reset values of R42 stand beside each unit. -/

namespace Sys2Proof.Machine

/-- One interrupt source slot (R22). -/
structure Source where
  pending : Bool
  enabled : Bool
  prio : BitVec 8
  deriving DecidableEq, Repr

/-- The router's state (R22, R23). -/
structure Router where
  src : Vector Source 256
  line : Bool
  cpuPrio : BitVec 8
  deriving DecidableEq, Repr

/-- The established domain dividers (R26). -/
structure Established where
  timer : BitVec 4
  serial : BitVec 4
  bus : BitVec 4
  deriving DecidableEq, Repr

/-- The clock unit's state (R24 to R27). -/
structure Clock where
  pllcon0 : Word
  pllcon1 : Word
  ccucon0 : Word
  ccucon1 : Word
  findis : Bool
  updPending : Bool
  est : Established
  pllLocked : Bool
  deriving DecidableEq, Repr

/-- A compare channel of the timer (R29). -/
inductive Channel where
  | ch0
  | ch1
  deriving DecidableEq, Repr

/-- The state of one compare channel: value, enable, request, output select (R28, R29). -/
structure Compare where
  word : Word
  en : Bool
  ir : Bool
  os : Bool
  deriving DecidableEq, Repr

/-- The armed deadline and the channel it serves (R32). -/
structure Alarm where
  deadline : Nat
  ch : Channel
  deriving DecidableEq, Repr

/-- The timer's state (R28 to R32). -/
structure Timer where
  cmp0 : Compare
  cmp1 : Compare
  clc : Word
  cmcon : Word
  ocs : Word
  krstclr : Word
  krst1 : Word
  krst0 : Word
  accen1 : Word
  accen0 : Word
  cap : Word
  capsv : Word
  t0 : Nat
  alarm : Option Alarm
  deriving DecidableEq, Repr

/-- A transmit unit: a byte or a block of guest memory (R35). -/
inductive TxItem where
  | byte (b : Byte)
  | block (len addr : Word)
  deriving DecidableEq, Repr

/-- The UART's state (R33 to R36): the 21 words that can change, the ring and its cursors, the transmit slot and the retry latch,
the block-transfer pair. The other six words of the register file are constants or computed (R33; log 17). -/
structure Uart where
  clc : Word
  iocr : Word
  txfifocon : Word
  rxfifocon : Word
  bitcon : Word
  framecon : Word
  datcon : Word
  brg : Word
  brd : Word
  lincon : Word
  linbtimer : Word
  linhtimer : Word
  flags : Word
  flagsenable : Word
  csr : Word
  ocs : Word
  krstclr : Word
  krst1 : Word
  krst0 : Word
  accen1 : Word
  accen0 : Word
  ring : Memory
  wr : Cursor
  rd : Cursor
  txPend : Option TxItem
  retryArmed : Bool
  blkLen : Word
  blkAddr : Word
  deriving DecidableEq, Repr

/-- The architectural state (10_state.md without the trace): what a SNAPSHOT holds (R472). -/
structure Block where
  router : Router
  clock : Clock
  timer : Timer
  uart : Uart
  /-- The virtual time in nanoseconds (R37). -/
  now : Nat
  deriving DecidableEq, Repr

/-- The source slot of index `i`. -/
def Router.source (r : Router) (i : SourceIndex) : Source := r.src[i.val]'i.isLt

/-- The router with the source slot of index `i` replaced. -/
def Router.setSource (r : Router) (i : SourceIndex) (x : Source) : Router :=
  { r with src := r.src.set i.val x i.isLt }

/-- The channel's registers. -/
def Timer.chan (t : Timer) : Channel → Compare
  | .ch0 => t.cmp0
  | .ch1 => t.cmp1

/-- The timer with one channel's registers replaced. -/
def Timer.setChan (t : Timer) (c : Channel) (x : Compare) : Timer :=
  match c with
  | .ch0 => { t with cmp0 := x }
  | .ch1 => { t with cmp1 := x }

/-- The source slot after a router reset (R42, R452). -/
def Source.cleared : Source := { pending := false, enabled := false, prio := 0#8 }

/-- The router after its reset (R42, R452). -/
def Router.resetValue : Router := { src := Vector.replicate 256 Source.cleared, line := false, cpuPrio := 0#8 }

/-- The clock unit after its reset; the lock input keeps its value (R42, R453). -/
def Clock.resetValue (locked : Bool) : Clock where
  pllcon0 := 0x00000001#32
  pllcon1 := 0x00000000#32
  ccucon0 := 0x00010000#32
  ccucon1 := 0x11000100#32
  findis := false
  updPending := false
  est := { timer := 1#4, serial := 1#4, bus := 1#4 }
  pllLocked := locked

/-- A compare channel after the timer reset (R42, R454). -/
def Compare.cleared : Compare := { word := 0#32, en := false, ir := false, os := false }

/-- The timer's registers after its reset at the time `now` (R42, R454). -/
def Timer.resetValue (now : Nat) : Timer where
  cmp0 := Compare.cleared
  cmp1 := Compare.cleared
  clc := 0#32
  cmcon := 0#32
  ocs := 0#32
  krstclr := 0#32
  krst1 := 0#32
  krst0 := 0#32
  accen1 := 0#32
  accen0 := 0#32
  cap := 0#32
  capsv := 0#32
  t0 := now
  alarm := none

/-- The UART after its reset (R42, R455). -/
def Uart.resetValue : Uart where
  clc := 0#32
  iocr := 0#32
  txfifocon := 0#32
  rxfifocon := 0#32
  bitcon := 0#32
  framecon := 0#32
  datcon := 0#32
  brg := 0#32
  brd := 0#32
  lincon := 0#32
  linbtimer := 0#32
  linhtimer := 0#32
  flags := 0#32
  flagsenable := 0#32
  csr := 0#32
  ocs := 0#32
  krstclr := 0#32
  krst1 := 0#32
  krst0 := 0#32
  accen1 := 0#32
  accen0 := 0#32
  ring := []
  wr := 0
  rd := 0
  txPend := none
  retryArmed := false
  blkLen := 0#32
  blkAddr := 0#32

/-- The architectural state at power-on: `now = 0`, the PLL locked (R42, R456). -/
def Block.powerOn : Block where
  router := Router.resetValue
  clock := Clock.resetValue true
  timer := Timer.resetValue 0
  uart := Uart.resetValue
  now := 0

/-- The stored bits of FLAGS, `FLAGS_DEF` without RFL and TFL (R331). -/
def flagsStored : Word := 0x4FFFE06F#32

/-- An item the machine can hold: a block only where the block transfer exists, and then of a positive length (R35, R393). -/
def TxItem.possible (p : Params) : TxItem → Bool
  | .byte _ => true
  | .block len _ => p.blkPresent && len ≠ 0#32

/-- The form of what a SNAPSHOT of a block with the parameters `p` returns: the bits the layouts store as 0 are 0 (R24, R132,
R134, R152, R331), the counter started no later than `now` (R31, R37), the ring holds slots 0..8191 in canonical form (R34), a
retry is armed only for a pending item, no item waits without a transport (R35, R368, R387), and the block-transfer pair is 0
where it does not exist (R36). RESTORE takes blobs of this form (U24; log 13). -/
def Block.snapshotForm (p : Params) (b : Block) : Bool :=
  b.clock.pllcon0 &&& 0x00000030#32 = 0#32 &&
  b.clock.ccucon0 &&& 0xC0000000#32 = 0#32 &&
  b.timer.t0 ≤ b.now &&
  b.uart.flags &&& ~~~flagsStored = 0#32 &&
  b.uart.txfifocon &&& 1#32 = 0#32 &&
  b.uart.rxfifocon &&& 1#32 = 0#32 &&
  Memory.wf b.uart.ring &&
  Memory.below b.uart.ring 8192 &&
  (!b.uart.retryArmed || b.uart.txPend.isSome) &&
  (b.uart.txPend.isNone || p.transportPresent) &&
  b.uart.txPend.all (TxItem.possible p) &&
  (p.blkPresent || (b.uart.blkLen = 0#32 && b.uart.blkAddr = 0#32))

end Sys2Proof.Machine
end

