-- ==== Sys2Proof/Syntax.lean ====
section
/-! DEFINITION. The operations of the block (R10): one constructor of `Instr` per row of the opcode table (R158), each with the fields
its descriptor carries (R111, R112) and the operands the environment gives beside the descriptor (R110, R112). -/

namespace Sys2Proof

/-- The size of a bus access, the field SZ (R111). -/
inductive Size where
  | byte
  | half
  | word
  deriving DecidableEq, Repr

/-- The four units, the field U (R2, R111). -/
inductive UnitId where
  | ir
  | ccu
  | stm
  | uart
  deriving DecidableEq, Repr

/-- Whether a bus access reads or writes, the bit W (R111). -/
inductive Dir where
  | read
  | write
  deriving DecidableEq, Repr

/-- The transport's answer to a delivery attempt (R112, R387). -/
inductive Answer where
  | accepted
  | wouldBlock
  deriving DecidableEq, Repr

/-- What an operation carries beside its descriptor (R110, R112): a row reads the operands R112 and R368 give it and no other. -/
structure Operand where
  /-- The write data of a bus access. -/
  data : Word
  /-- The drawn answer of the transport. -/
  ans : Answer
  /-- The nanoseconds of a TIME event. -/
  delta : Nat
  /-- The burst of an RX event. -/
  bytes : List Byte
  /-- The state a RESTORE event is given. -/
  blob : Machine.Block
  deriving DecidableEq, Repr

/-- An operation as the environment presents it: the 32-bit descriptor and its operands (R110, R162). -/
structure Op where
  desc : Word
  args : Operand
  deriving DecidableEq, Repr

/-- Why a descriptor is refused (R113). -/
inductive DecodeError where
  /-- A bus access with SZ = 0b11. -/
  | reservedSize
  /-- A bus access with a bit of [27:26] or [23:12] set. -/
  | reservedBits
  /-- An event whose code is not in the table of R112. -/
  | unknownEvent
  /-- An event with a payload bit outside its fields. -/
  | payloadBits
  deriving DecidableEq, Repr

/-- The operations, in the order of spec/opcode_table.json. `i` is a source index, `sz` and `lane` the width and byte offset of the
access, `off` a byte offset that holds no declared register, `data` the write data, `ans` the transport's answer. -/
inductive Instr where
  /-- `rd IR.SRC[i]` (R205). -/
  | rdIrSrc (i : SourceIndex) (sz : Size) (lane : Lane)
  /-- `wr IR.SRC[i]` (R206). -/
  | wrIrSrc (i : SourceIndex) (sz : Size) (lane : Lane) (data : Word)
  /-- `rd CCU.PLLSTAT` (R236). -/
  | rdCcuPllstat (sz : Size) (lane : Lane)
  /-- `wr CCU.PLLSTAT` (R237). -/
  | wrCcuPllstat (sz : Size) (lane : Lane) (data : Word)
  /-- `rd CCU.PLLCON0` (R238). -/
  | rdCcuPllcon0 (sz : Size) (lane : Lane)
  /-- `wr CCU.PLLCON0` (R239). -/
  | wrCcuPllcon0 (sz : Size) (lane : Lane) (data : Word)
  /-- `rd CCU.PLLCON1` (R240). -/
  | rdCcuPllcon1 (sz : Size) (lane : Lane)
  /-- `wr CCU.PLLCON1` (R241). -/
  | wrCcuPllcon1 (sz : Size) (lane : Lane) (data : Word)
  /-- `rd CCU.CCUCON0` (R242). -/
  | rdCcuCcucon0 (sz : Size) (lane : Lane)
  /-- `wr CCU.CCUCON0` (R243). -/
  | wrCcuCcucon0 (sz : Size) (lane : Lane) (data : Word)
  /-- `rd CCU.CCUCON1` (R244). -/
  | rdCcuCcucon1 (sz : Size) (lane : Lane)
  /-- `wr CCU.CCUCON1` (R245). -/
  | wrCcuCcucon1 (sz : Size) (lane : Lane) (data : Word)
  /-- `rd STM.CLC` (R271). -/
  | rdStmClc (sz : Size) (lane : Lane)
  /-- `wr STM.CLC` (R272). -/
  | wrStmClc (sz : Size) (lane : Lane) (data : Word)
  /-- `rd STM.ID` (R273). -/
  | rdStmId (sz : Size) (lane : Lane)
  /-- `wr STM.ID` (R274). -/
  | wrStmId (sz : Size) (lane : Lane) (data : Word)
  /-- `rd STM.TIM0` (R275). -/
  | rdStmTim0 (sz : Size) (lane : Lane)
  /-- `wr STM.TIM0` (R276). -/
  | wrStmTim0 (sz : Size) (lane : Lane) (data : Word)
  /-- `rd STM.TIM1` (R277). -/
  | rdStmTim1 (sz : Size) (lane : Lane)
  /-- `wr STM.TIM1` (R278). -/
  | wrStmTim1 (sz : Size) (lane : Lane) (data : Word)
  /-- `rd STM.TIM2` (R279). -/
  | rdStmTim2 (sz : Size) (lane : Lane)
  /-- `wr STM.TIM2` (R280). -/
  | wrStmTim2 (sz : Size) (lane : Lane) (data : Word)
  /-- `rd STM.TIM3` (R281). -/
  | rdStmTim3 (sz : Size) (lane : Lane)
  /-- `wr STM.TIM3` (R282). -/
  | wrStmTim3 (sz : Size) (lane : Lane) (data : Word)
  /-- `rd STM.TIM4` (R283). -/
  | rdStmTim4 (sz : Size) (lane : Lane)
  /-- `wr STM.TIM4` (R284). -/
  | wrStmTim4 (sz : Size) (lane : Lane) (data : Word)
  /-- `rd STM.TIM5` (R285). -/
  | rdStmTim5 (sz : Size) (lane : Lane)
  /-- `wr STM.TIM5` (R286). -/
  | wrStmTim5 (sz : Size) (lane : Lane) (data : Word)
  /-- `rd STM.TIM6` (R287). -/
  | rdStmTim6 (sz : Size) (lane : Lane)
  /-- `wr STM.TIM6` (R288). -/
  | wrStmTim6 (sz : Size) (lane : Lane) (data : Word)
  /-- `rd STM.CAP` (R289). -/
  | rdStmCap (sz : Size) (lane : Lane)
  /-- `wr STM.CAP` (R290). -/
  | wrStmCap (sz : Size) (lane : Lane) (data : Word)
  /-- `rd STM.CMP0` (R291). -/
  | rdStmCmp0 (sz : Size) (lane : Lane)
  /-- `wr STM.CMP0` (R292). -/
  | wrStmCmp0 (sz : Size) (lane : Lane) (data : Word)
  /-- `rd STM.CMP1` (R293). -/
  | rdStmCmp1 (sz : Size) (lane : Lane)
  /-- `wr STM.CMP1` (R294). -/
  | wrStmCmp1 (sz : Size) (lane : Lane) (data : Word)
  /-- `rd STM.CMCON` (R295). -/
  | rdStmCmcon (sz : Size) (lane : Lane)
  /-- `wr STM.CMCON` (R296). -/
  | wrStmCmcon (sz : Size) (lane : Lane) (data : Word)
  /-- `rd STM.ICR` (R297). -/
  | rdStmIcr (sz : Size) (lane : Lane)
  /-- `wr STM.ICR` (R298). -/
  | wrStmIcr (sz : Size) (lane : Lane) (data : Word)
  /-- `rd STM.ISCR` (R299). -/
  | rdStmIscr (sz : Size) (lane : Lane)
  /-- `wr STM.ISCR` (R300). -/
  | wrStmIscr (sz : Size) (lane : Lane) (data : Word)
  /-- `rd STM.TIM0SV` (R301). -/
  | rdStmTim0sv (sz : Size) (lane : Lane)
  /-- `wr STM.TIM0SV` (R302). -/
  | wrStmTim0sv (sz : Size) (lane : Lane) (data : Word)
  /-- `rd STM.CAPSV` (R303). -/
  | rdStmCapsv (sz : Size) (lane : Lane)
  /-- `wr STM.CAPSV` (R304). -/
  | wrStmCapsv (sz : Size) (lane : Lane) (data : Word)
  /-- `rd STM.OCS` (R305). -/
  | rdStmOcs (sz : Size) (lane : Lane)
  /-- `wr STM.OCS` (R306). -/
  | wrStmOcs (sz : Size) (lane : Lane) (data : Word)
  /-- `rd STM.KRSTCLR` (R307). -/
  | rdStmKrstclr (sz : Size) (lane : Lane)
  /-- `wr STM.KRSTCLR` (R308). -/
  | wrStmKrstclr (sz : Size) (lane : Lane) (data : Word)
  /-- `rd STM.KRST1` (R309). -/
  | rdStmKrst1 (sz : Size) (lane : Lane)
  /-- `wr STM.KRST1` (R310). -/
  | wrStmKrst1 (sz : Size) (lane : Lane) (data : Word)
  /-- `rd STM.KRST0` (R311). -/
  | rdStmKrst0 (sz : Size) (lane : Lane)
  /-- `wr STM.KRST0` (R312). -/
  | wrStmKrst0 (sz : Size) (lane : Lane) (data : Word)
  /-- `rd STM.ACCEN1` (R313). -/
  | rdStmAccen1 (sz : Size) (lane : Lane)
  /-- `wr STM.ACCEN1` (R314). -/
  | wrStmAccen1 (sz : Size) (lane : Lane) (data : Word)
  /-- `rd STM.ACCEN0` (R315). -/
  | rdStmAccen0 (sz : Size) (lane : Lane)
  /-- `wr STM.ACCEN0` (R316). -/
  | wrStmAccen0 (sz : Size) (lane : Lane) (data : Word)
  /-- `rd UART.CLC` (R333). -/
  | rdUartClc (sz : Size) (lane : Lane)
  /-- `wr UART.CLC` (R334). -/
  | wrUartClc (sz : Size) (lane : Lane) (data : Word)
  /-- `rd UART.IOCR` (R335). -/
  | rdUartIocr (sz : Size) (lane : Lane)
  /-- `wr UART.IOCR` (R336). -/
  | wrUartIocr (sz : Size) (lane : Lane) (data : Word)
  /-- `rd UART.ID` (R337). -/
  | rdUartId (sz : Size) (lane : Lane)
  /-- `wr UART.ID` (R338). -/
  | wrUartId (sz : Size) (lane : Lane) (data : Word)
  /-- `rd UART.TXFIFOCON` (R339). -/
  | rdUartTxfifocon (sz : Size) (lane : Lane)
  /-- `wr UART.TXFIFOCON` (R340). -/
  | wrUartTxfifocon (sz : Size) (lane : Lane) (data : Word)
  /-- `rd UART.RXFIFOCON` (R341). -/
  | rdUartRxfifocon (sz : Size) (lane : Lane)
  /-- `wr UART.RXFIFOCON` (R342). -/
  | wrUartRxfifocon (sz : Size) (lane : Lane) (data : Word)
  /-- `rd UART.BITCON` (R343). -/
  | rdUartBitcon (sz : Size) (lane : Lane)
  /-- `wr UART.BITCON` (R344). -/
  | wrUartBitcon (sz : Size) (lane : Lane) (data : Word)
  /-- `rd UART.FRAMECON` (R345). -/
  | rdUartFramecon (sz : Size) (lane : Lane)
  /-- `wr UART.FRAMECON` (R346). -/
  | wrUartFramecon (sz : Size) (lane : Lane) (data : Word)
  /-- `rd UART.DATCON` (R347). -/
  | rdUartDatcon (sz : Size) (lane : Lane)
  /-- `wr UART.DATCON` (R348). -/
  | wrUartDatcon (sz : Size) (lane : Lane) (data : Word)
  /-- `rd UART.BRG` (R349). -/
  | rdUartBrg (sz : Size) (lane : Lane)
  /-- `wr UART.BRG` (R350). -/
  | wrUartBrg (sz : Size) (lane : Lane) (data : Word)
  /-- `rd UART.BRD` (R351). -/
  | rdUartBrd (sz : Size) (lane : Lane)
  /-- `wr UART.BRD` (R352). -/
  | wrUartBrd (sz : Size) (lane : Lane) (data : Word)
  /-- `rd UART.LINCON` (R353). -/
  | rdUartLincon (sz : Size) (lane : Lane)
  /-- `wr UART.LINCON` (R354). -/
  | wrUartLincon (sz : Size) (lane : Lane) (data : Word)
  /-- `rd UART.LINBTIMER` (R355). -/
  | rdUartLinbtimer (sz : Size) (lane : Lane)
  /-- `wr UART.LINBTIMER` (R356). -/
  | wrUartLinbtimer (sz : Size) (lane : Lane) (data : Word)
  /-- `rd UART.LINHTIMER` (R357). -/
  | rdUartLinhtimer (sz : Size) (lane : Lane)
  /-- `wr UART.LINHTIMER` (R358). -/
  | wrUartLinhtimer (sz : Size) (lane : Lane) (data : Word)
  /-- `rd UART.FLAGS` (R359). -/
  | rdUartFlags (sz : Size) (lane : Lane)
  /-- `wr UART.FLAGS` (R360). -/
  | wrUartFlags (sz : Size) (lane : Lane) (data : Word)
  /-- `rd UART.FLAGSSET` (R361). -/
  | rdUartFlagsset (sz : Size) (lane : Lane)
  /-- `wr UART.FLAGSSET` (R362). -/
  | wrUartFlagsset (sz : Size) (lane : Lane) (data : Word)
  /-- `rd UART.FLAGSCLEAR` (R363). -/
  | rdUartFlagsclear (sz : Size) (lane : Lane)
  /-- `wr UART.FLAGSCLEAR` (R364). -/
  | wrUartFlagsclear (sz : Size) (lane : Lane) (data : Word)
  /-- `rd UART.FLAGSENABLE` (R365). -/
  | rdUartFlagsenable (sz : Size) (lane : Lane)
  /-- `wr UART.FLAGSENABLE` (R366). -/
  | wrUartFlagsenable (sz : Size) (lane : Lane) (data : Word)
  /-- `rd UART.TXDATA` (R367). -/
  | rdUartTxdata (sz : Size) (lane : Lane)
  /-- `wr UART.TXDATA` (R368). -/
  | wrUartTxdata (sz : Size) (lane : Lane) (data : Word) (ans : Answer)
  /-- `rd UART.RXDATA` (R369). -/
  | rdUartRxdata (sz : Size) (lane : Lane)
  /-- `wr UART.RXDATA` (R370). -/
  | wrUartRxdata (sz : Size) (lane : Lane) (data : Word)
  /-- `rd UART.CSR` (R371). -/
  | rdUartCsr (sz : Size) (lane : Lane)
  /-- `wr UART.CSR` (R372). -/
  | wrUartCsr (sz : Size) (lane : Lane) (data : Word)
  /-- `rd UART.RXDATAD` (R373). -/
  | rdUartRxdatad (sz : Size) (lane : Lane)
  /-- `wr UART.RXDATAD` (R374). -/
  | wrUartRxdatad (sz : Size) (lane : Lane) (data : Word)
  /-- `rd UART.OCS` (R375). -/
  | rdUartOcs (sz : Size) (lane : Lane)
  /-- `wr UART.OCS` (R376). -/
  | wrUartOcs (sz : Size) (lane : Lane) (data : Word)
  /-- `rd UART.KRSTCLR` (R377). -/
  | rdUartKrstclr (sz : Size) (lane : Lane)
  /-- `wr UART.KRSTCLR` (R378). -/
  | wrUartKrstclr (sz : Size) (lane : Lane) (data : Word)
  /-- `rd UART.KRST1` (R379). -/
  | rdUartKrst1 (sz : Size) (lane : Lane)
  /-- `wr UART.KRST1` (R380). -/
  | wrUartKrst1 (sz : Size) (lane : Lane) (data : Word)
  /-- `rd UART.KRST0` (R381). -/
  | rdUartKrst0 (sz : Size) (lane : Lane)
  /-- `wr UART.KRST0` (R382). -/
  | wrUartKrst0 (sz : Size) (lane : Lane) (data : Word)
  /-- `rd UART.ACCEN1` (R383). -/
  | rdUartAccen1 (sz : Size) (lane : Lane)
  /-- `wr UART.ACCEN1` (R384). -/
  | wrUartAccen1 (sz : Size) (lane : Lane) (data : Word)
  /-- `rd UART.ACCEN0` (R385). -/
  | rdUartAccen0 (sz : Size) (lane : Lane)
  /-- `wr UART.ACCEN0` (R386). -/
  | wrUartAccen0 (sz : Size) (lane : Lane) (data : Word)
  /-- `rd IR.<undeclared>` (R207). -/
  | rdIrUndeclared (sz : Size) (off : Offset)
  /-- `wr IR.<undeclared>` (R207). -/
  | wrIrUndeclared (sz : Size) (off : Offset) (data : Word)
  /-- `rd CCU.<undeclared>` (R84). -/
  | rdCcuUndeclared (sz : Size) (off : Offset)
  /-- `wr CCU.<undeclared>` (R84). -/
  | wrCcuUndeclared (sz : Size) (off : Offset) (data : Word)
  /-- `rd STM.<undeclared>` (R84). -/
  | rdStmUndeclared (sz : Size) (off : Offset)
  /-- `wr STM.<undeclared>` (R84). -/
  | wrStmUndeclared (sz : Size) (off : Offset) (data : Word)
  /-- `rd UART.<undeclared>` (R84). -/
  | rdUartUndeclared (sz : Size) (off : Offset)
  /-- `wr UART.<undeclared>` (R84). -/
  | wrUartUndeclared (sz : Size) (off : Offset) (data : Word) (ans : Answer)
  /-- `ev.reset U` (R450). -/
  | evReset (u : UnitId)
  /-- `ev.reset all` (R451). -/
  | evResetAll
  /-- `ev.time +delta` (R470). -/
  | evTime (delta : Nat)
  /-- `ev.alarm` (R319). -/
  | evAlarm
  /-- `ev.rx b0 .. bk` (R389). -/
  | evRx (bytes : List Byte)
  /-- `ev.writable ans` (R388). -/
  | evWritable (ans : Answer)
  /-- `ev.lock l` (R246). -/
  | evLock (l : Bool)
  /-- `ev.level i, l` (R208). -/
  | evLevel (i : SourceIndex) (l : Bool)
  /-- `ev.snapshot` (R472). -/
  | evSnapshot
  /-- `ev.restore s` (R473). -/
  | evRestore (blob : Machine.Block)
  deriving DecidableEq, Repr

end Sys2Proof
end

