-- ==== Sys2Proof/WellFormed.lean ====
section
/-! DEFINITION. Which terms of `Instr` stand for a descriptor: the offset of an undeclared access holds no declared register of its unit
(R84, R158). Every other operand is typed to its range. Admission of an access (R82) is the machine's. -/

namespace Sys2Proof

/-- The declared word offsets of the clock window (R130). -/
def ccuDeclared : List Nat := [0x14, 0x18, 0x1C, 0x30, 0x34]

/-- The declared word offsets of the timer window (R140). -/
def stmDeclared : List Nat :=
  [0x00, 0x08, 0x10, 0x14, 0x18, 0x1C, 0x20, 0x24, 0x28, 0x2C, 0x30, 0x34, 0x38, 0x3C, 0x40, 0x50, 0x54, 0xE8, 0xEC, 0xF0, 0xF4, 0xF8, 0xFC]

/-- The declared word offsets of the UART window (R150). -/
def uartDeclared : List Nat :=
  [0x00, 0x04, 0x08, 0x0C, 0x10, 0x14, 0x18, 0x1C, 0x20, 0x24, 0x28, 0x2C, 0x30, 0x34, 0x38, 0x3C, 0x40, 0x44, 0x48, 0x4C, 0x50, 0xE8, 0xEC, 0xF0, 0xF4, 0xF8, 0xFC]

/-- The word offset that the byte offset `off` falls in (R82). -/
def wordOffset (off : Offset) : Nat := off.val - off.val % 4

/-- The byte offset `off` holds no source word: in the router's window only offsets from 0x400 on are undeclared (R120, R207). -/
def irUndeclared (off : Offset) : Bool := 0x400 ≤ off.val

/-- The byte offset `off` holds no declared register of the clock unit (R130). -/
def ccuUndeclared (off : Offset) : Bool := !ccuDeclared.contains (wordOffset off)

/-- The byte offset `off` holds no declared register of the timer (R140). -/
def stmUndeclared (off : Offset) : Bool := !stmDeclared.contains (wordOffset off)

/-- The byte offset `off` holds no declared register of the UART (R150). -/
def uartUndeclared (off : Offset) : Bool := !uartDeclared.contains (wordOffset off)

/-- The term stands for a descriptor. -/
def Instr.wellFormed : Instr → Bool
  | .rdIrSrc _ _ _ => true
  | .wrIrSrc _ _ _ _ => true
  | .rdCcuPllstat _ _ => true
  | .wrCcuPllstat _ _ _ => true
  | .rdCcuPllcon0 _ _ => true
  | .wrCcuPllcon0 _ _ _ => true
  | .rdCcuPllcon1 _ _ => true
  | .wrCcuPllcon1 _ _ _ => true
  | .rdCcuCcucon0 _ _ => true
  | .wrCcuCcucon0 _ _ _ => true
  | .rdCcuCcucon1 _ _ => true
  | .wrCcuCcucon1 _ _ _ => true
  | .rdStmClc _ _ => true
  | .wrStmClc _ _ _ => true
  | .rdStmId _ _ => true
  | .wrStmId _ _ _ => true
  | .rdStmTim0 _ _ => true
  | .wrStmTim0 _ _ _ => true
  | .rdStmTim1 _ _ => true
  | .wrStmTim1 _ _ _ => true
  | .rdStmTim2 _ _ => true
  | .wrStmTim2 _ _ _ => true
  | .rdStmTim3 _ _ => true
  | .wrStmTim3 _ _ _ => true
  | .rdStmTim4 _ _ => true
  | .wrStmTim4 _ _ _ => true
  | .rdStmTim5 _ _ => true
  | .wrStmTim5 _ _ _ => true
  | .rdStmTim6 _ _ => true
  | .wrStmTim6 _ _ _ => true
  | .rdStmCap _ _ => true
  | .wrStmCap _ _ _ => true
  | .rdStmCmp0 _ _ => true
  | .wrStmCmp0 _ _ _ => true
  | .rdStmCmp1 _ _ => true
  | .wrStmCmp1 _ _ _ => true
  | .rdStmCmcon _ _ => true
  | .wrStmCmcon _ _ _ => true
  | .rdStmIcr _ _ => true
  | .wrStmIcr _ _ _ => true
  | .rdStmIscr _ _ => true
  | .wrStmIscr _ _ _ => true
  | .rdStmTim0sv _ _ => true
  | .wrStmTim0sv _ _ _ => true
  | .rdStmCapsv _ _ => true
  | .wrStmCapsv _ _ _ => true
  | .rdStmOcs _ _ => true
  | .wrStmOcs _ _ _ => true
  | .rdStmKrstclr _ _ => true
  | .wrStmKrstclr _ _ _ => true
  | .rdStmKrst1 _ _ => true
  | .wrStmKrst1 _ _ _ => true
  | .rdStmKrst0 _ _ => true
  | .wrStmKrst0 _ _ _ => true
  | .rdStmAccen1 _ _ => true
  | .wrStmAccen1 _ _ _ => true
  | .rdStmAccen0 _ _ => true
  | .wrStmAccen0 _ _ _ => true
  | .rdUartClc _ _ => true
  | .wrUartClc _ _ _ => true
  | .rdUartIocr _ _ => true
  | .wrUartIocr _ _ _ => true
  | .rdUartId _ _ => true
  | .wrUartId _ _ _ => true
  | .rdUartTxfifocon _ _ => true
  | .wrUartTxfifocon _ _ _ => true
  | .rdUartRxfifocon _ _ => true
  | .wrUartRxfifocon _ _ _ => true
  | .rdUartBitcon _ _ => true
  | .wrUartBitcon _ _ _ => true
  | .rdUartFramecon _ _ => true
  | .wrUartFramecon _ _ _ => true
  | .rdUartDatcon _ _ => true
  | .wrUartDatcon _ _ _ => true
  | .rdUartBrg _ _ => true
  | .wrUartBrg _ _ _ => true
  | .rdUartBrd _ _ => true
  | .wrUartBrd _ _ _ => true
  | .rdUartLincon _ _ => true
  | .wrUartLincon _ _ _ => true
  | .rdUartLinbtimer _ _ => true
  | .wrUartLinbtimer _ _ _ => true
  | .rdUartLinhtimer _ _ => true
  | .wrUartLinhtimer _ _ _ => true
  | .rdUartFlags _ _ => true
  | .wrUartFlags _ _ _ => true
  | .rdUartFlagsset _ _ => true
  | .wrUartFlagsset _ _ _ => true
  | .rdUartFlagsclear _ _ => true
  | .wrUartFlagsclear _ _ _ => true
  | .rdUartFlagsenable _ _ => true
  | .wrUartFlagsenable _ _ _ => true
  | .rdUartTxdata _ _ => true
  | .wrUartTxdata _ _ _ _ => true
  | .rdUartRxdata _ _ => true
  | .wrUartRxdata _ _ _ => true
  | .rdUartCsr _ _ => true
  | .wrUartCsr _ _ _ => true
  | .rdUartRxdatad _ _ => true
  | .wrUartRxdatad _ _ _ => true
  | .rdUartOcs _ _ => true
  | .wrUartOcs _ _ _ => true
  | .rdUartKrstclr _ _ => true
  | .wrUartKrstclr _ _ _ => true
  | .rdUartKrst1 _ _ => true
  | .wrUartKrst1 _ _ _ => true
  | .rdUartKrst0 _ _ => true
  | .wrUartKrst0 _ _ _ => true
  | .rdUartAccen1 _ _ => true
  | .wrUartAccen1 _ _ _ => true
  | .rdUartAccen0 _ _ => true
  | .wrUartAccen0 _ _ _ => true
  | .rdIrUndeclared _ off => irUndeclared off
  | .wrIrUndeclared _ off _ => irUndeclared off
  | .rdCcuUndeclared _ off => ccuUndeclared off
  | .wrCcuUndeclared _ off _ => ccuUndeclared off
  | .rdStmUndeclared _ off => stmUndeclared off
  | .wrStmUndeclared _ off _ => stmUndeclared off
  | .rdUartUndeclared _ off => uartUndeclared off
  | .wrUartUndeclared _ off _ _ => uartUndeclared off
  | .evReset _ => true
  | .evResetAll => true
  | .evTime _ => true
  | .evAlarm => true
  | .evRx _ => true
  | .evWritable _ => true
  | .evLock _ => true
  | .evLevel _ _ => true
  | .evSnapshot => true
  | .evRestore _ => true

end Sys2Proof
end

