-- ==== Sys2Proof/Decode.lean ====
section
/-! DEFINITION. Descriptors (R110 to R113): the decoder, total, refusing by name, and the encoder. Both go through `Form`, the two
formats of R111 and R112 with their fields taken apart. -/

namespace Sys2Proof

open Machine (bits)

/-- A descriptor's fields: the bus-access format (R111) or the event format (R112). -/
inductive Form where
  | bus (d : Dir) (sz : Size) (u : UnitId) (off : Offset)
  | event (code payload : Nat)
  deriving DecidableEq, Repr

/-- The code of SZ (R111). -/
def Size.code : Size → Nat
  | .byte => 0
  | .half => 1
  | .word => 2

/-- SZ read back; 0b11 is reserved (R111, R113). -/
def Size.ofCode : Nat → Option Size
  | 0 => some .byte
  | 1 => some .half
  | 2 => some .word
  | _ => none

/-- The code of U (R111, R450). -/
def UnitId.code : UnitId → Nat
  | .ir => 0
  | .ccu => 1
  | .stm => 2
  | .uart => 3

/-- The 2-bit field U read back (R111). -/
def UnitId.ofCode : Nat → UnitId
  | 0 => .ir
  | 1 => .ccu
  | 2 => .stm
  | _ => .uart

/-- The bit W (R111). -/
def Dir.code : Dir → Nat
  | .read => 0
  | .write => 1

/-- The bit W read back (R111). -/
def Dir.ofCode : Nat → Dir
  | 0 => .read
  | _ => .write

/-- The descriptor's number: `(W << 30) | (SZ << 28) | (U << 24) | OFF`, or `0x8000_0000 | (EV << 24) | payload`, the fields lying in
disjoint bits (R111, R112). -/
def Form.number : Form → Nat
  | .bus d sz u off => d.code * 2 ^ 30 + sz.code * 2 ^ 28 + u.code * 2 ^ 24 + off.val
  | .event code payload => 2 ^ 31 + code * 2 ^ 24 + payload

/-- The descriptor of a form. -/
def Form.toWord (f : Form) : Word := BitVec.ofNat 32 f.number

/-- The format and fields of a descriptor, refused where a reserved bit is set or SZ is 0b11 (R111, R112, R113). -/
def Form.parse (w : Word) : Except DecodeError Form :=
  if bits 31 31 w = 0 then
    if bits 27 26 w ≠ 0 ∨ bits 23 12 w ≠ 0 then .error .reservedBits
    else
      match Size.ofCode (bits 29 28 w) with
      | none => .error .reservedSize
      | some sz =>
        .ok (.bus (Dir.ofCode (bits 30 30 w)) sz (UnitId.ofCode (bits 25 24 w)) (Fin.ofNat 4096 (bits 11 0 w)))
  else .ok (.event (bits 30 24 w) (bits 23 0 w))

/-- The lane of a byte offset, `OFF[1:0]` (R82, R157). -/
def laneOf (off : Offset) : Lane := Fin.ofNat 4 off.val

/-- The byte offset of lane `lane` of the word at `w`. -/
def offsetOf (w : Nat) (lane : Lane) : Offset := Fin.ofNat 4096 (w + lane.val)

/-- A router access: below 0x400 the source word `off / 4`, from there on undeclared (R120, R207). -/
def decodeIr (d : Dir) (sz : Size) (off : Offset) (a : Operand) : Instr :=
  if irUndeclared off then
    match d with
    | .read => .rdIrUndeclared sz off
    | .write => .wrIrUndeclared sz off a.data
  else
    match d with
    | .read => .rdIrSrc (Fin.ofNat 256 (off.val / 4)) sz (laneOf off)
    | .write => .wrIrSrc (Fin.ofNat 256 (off.val / 4)) sz (laneOf off) a.data

/-- A read of the CCU window: the declared words of the layout, else undeclared (R130, R84). -/
def decodeCcuRead (sz : Size) (off : Offset) : Instr :=
  match wordOffset off with
  | 0x14 => .rdCcuPllstat sz (laneOf off)
  | 0x18 => .rdCcuPllcon0 sz (laneOf off)
  | 0x1C => .rdCcuPllcon1 sz (laneOf off)
  | 0x30 => .rdCcuCcucon0 sz (laneOf off)
  | 0x34 => .rdCcuCcucon1 sz (laneOf off)
  | _ => .rdCcuUndeclared sz off

/-- A write of the CCU window: the declared words of the layout, else undeclared (R130, R84). -/
def decodeCcuWrite (sz : Size) (off : Offset) (a : Operand) : Instr :=
  match wordOffset off with
  | 0x14 => .wrCcuPllstat sz (laneOf off) a.data
  | 0x18 => .wrCcuPllcon0 sz (laneOf off) a.data
  | 0x1C => .wrCcuPllcon1 sz (laneOf off) a.data
  | 0x30 => .wrCcuCcucon0 sz (laneOf off) a.data
  | 0x34 => .wrCcuCcucon1 sz (laneOf off) a.data
  | _ => .wrCcuUndeclared sz off a.data

/-- A read of the STM window: the declared words of the layout, else undeclared (R140, R84). -/
def decodeStmRead (sz : Size) (off : Offset) : Instr :=
  match wordOffset off with
  | 0x00 => .rdStmClc sz (laneOf off)
  | 0x08 => .rdStmId sz (laneOf off)
  | 0x10 => .rdStmTim0 sz (laneOf off)
  | 0x14 => .rdStmTim1 sz (laneOf off)
  | 0x18 => .rdStmTim2 sz (laneOf off)
  | 0x1C => .rdStmTim3 sz (laneOf off)
  | 0x20 => .rdStmTim4 sz (laneOf off)
  | 0x24 => .rdStmTim5 sz (laneOf off)
  | 0x28 => .rdStmTim6 sz (laneOf off)
  | 0x2C => .rdStmCap sz (laneOf off)
  | 0x30 => .rdStmCmp0 sz (laneOf off)
  | 0x34 => .rdStmCmp1 sz (laneOf off)
  | 0x38 => .rdStmCmcon sz (laneOf off)
  | 0x3C => .rdStmIcr sz (laneOf off)
  | 0x40 => .rdStmIscr sz (laneOf off)
  | 0x50 => .rdStmTim0sv sz (laneOf off)
  | 0x54 => .rdStmCapsv sz (laneOf off)
  | 0xE8 => .rdStmOcs sz (laneOf off)
  | 0xEC => .rdStmKrstclr sz (laneOf off)
  | 0xF0 => .rdStmKrst1 sz (laneOf off)
  | 0xF4 => .rdStmKrst0 sz (laneOf off)
  | 0xF8 => .rdStmAccen1 sz (laneOf off)
  | 0xFC => .rdStmAccen0 sz (laneOf off)
  | _ => .rdStmUndeclared sz off

/-- A write of the STM window: the declared words of the layout, else undeclared (R140, R84). -/
def decodeStmWrite (sz : Size) (off : Offset) (a : Operand) : Instr :=
  match wordOffset off with
  | 0x00 => .wrStmClc sz (laneOf off) a.data
  | 0x08 => .wrStmId sz (laneOf off) a.data
  | 0x10 => .wrStmTim0 sz (laneOf off) a.data
  | 0x14 => .wrStmTim1 sz (laneOf off) a.data
  | 0x18 => .wrStmTim2 sz (laneOf off) a.data
  | 0x1C => .wrStmTim3 sz (laneOf off) a.data
  | 0x20 => .wrStmTim4 sz (laneOf off) a.data
  | 0x24 => .wrStmTim5 sz (laneOf off) a.data
  | 0x28 => .wrStmTim6 sz (laneOf off) a.data
  | 0x2C => .wrStmCap sz (laneOf off) a.data
  | 0x30 => .wrStmCmp0 sz (laneOf off) a.data
  | 0x34 => .wrStmCmp1 sz (laneOf off) a.data
  | 0x38 => .wrStmCmcon sz (laneOf off) a.data
  | 0x3C => .wrStmIcr sz (laneOf off) a.data
  | 0x40 => .wrStmIscr sz (laneOf off) a.data
  | 0x50 => .wrStmTim0sv sz (laneOf off) a.data
  | 0x54 => .wrStmCapsv sz (laneOf off) a.data
  | 0xE8 => .wrStmOcs sz (laneOf off) a.data
  | 0xEC => .wrStmKrstclr sz (laneOf off) a.data
  | 0xF0 => .wrStmKrst1 sz (laneOf off) a.data
  | 0xF4 => .wrStmKrst0 sz (laneOf off) a.data
  | 0xF8 => .wrStmAccen1 sz (laneOf off) a.data
  | 0xFC => .wrStmAccen0 sz (laneOf off) a.data
  | _ => .wrStmUndeclared sz off a.data

/-- A read of the UART window: the declared words of the layout, else undeclared (R150, R84). -/
def decodeUartRead (sz : Size) (off : Offset) : Instr :=
  match wordOffset off with
  | 0x00 => .rdUartClc sz (laneOf off)
  | 0x04 => .rdUartIocr sz (laneOf off)
  | 0x08 => .rdUartId sz (laneOf off)
  | 0x0C => .rdUartTxfifocon sz (laneOf off)
  | 0x10 => .rdUartRxfifocon sz (laneOf off)
  | 0x14 => .rdUartBitcon sz (laneOf off)
  | 0x18 => .rdUartFramecon sz (laneOf off)
  | 0x1C => .rdUartDatcon sz (laneOf off)
  | 0x20 => .rdUartBrg sz (laneOf off)
  | 0x24 => .rdUartBrd sz (laneOf off)
  | 0x28 => .rdUartLincon sz (laneOf off)
  | 0x2C => .rdUartLinbtimer sz (laneOf off)
  | 0x30 => .rdUartLinhtimer sz (laneOf off)
  | 0x34 => .rdUartFlags sz (laneOf off)
  | 0x38 => .rdUartFlagsset sz (laneOf off)
  | 0x3C => .rdUartFlagsclear sz (laneOf off)
  | 0x40 => .rdUartFlagsenable sz (laneOf off)
  | 0x44 => .rdUartTxdata sz (laneOf off)
  | 0x48 => .rdUartRxdata sz (laneOf off)
  | 0x4C => .rdUartCsr sz (laneOf off)
  | 0x50 => .rdUartRxdatad sz (laneOf off)
  | 0xE8 => .rdUartOcs sz (laneOf off)
  | 0xEC => .rdUartKrstclr sz (laneOf off)
  | 0xF0 => .rdUartKrst1 sz (laneOf off)
  | 0xF4 => .rdUartKrst0 sz (laneOf off)
  | 0xF8 => .rdUartAccen1 sz (laneOf off)
  | 0xFC => .rdUartAccen0 sz (laneOf off)
  | _ => .rdUartUndeclared sz off

/-- A write of the UART window: the declared words of the layout, else undeclared (R150, R84). -/
def decodeUartWrite (sz : Size) (off : Offset) (a : Operand) : Instr :=
  match wordOffset off with
  | 0x00 => .wrUartClc sz (laneOf off) a.data
  | 0x04 => .wrUartIocr sz (laneOf off) a.data
  | 0x08 => .wrUartId sz (laneOf off) a.data
  | 0x0C => .wrUartTxfifocon sz (laneOf off) a.data
  | 0x10 => .wrUartRxfifocon sz (laneOf off) a.data
  | 0x14 => .wrUartBitcon sz (laneOf off) a.data
  | 0x18 => .wrUartFramecon sz (laneOf off) a.data
  | 0x1C => .wrUartDatcon sz (laneOf off) a.data
  | 0x20 => .wrUartBrg sz (laneOf off) a.data
  | 0x24 => .wrUartBrd sz (laneOf off) a.data
  | 0x28 => .wrUartLincon sz (laneOf off) a.data
  | 0x2C => .wrUartLinbtimer sz (laneOf off) a.data
  | 0x30 => .wrUartLinhtimer sz (laneOf off) a.data
  | 0x34 => .wrUartFlags sz (laneOf off) a.data
  | 0x38 => .wrUartFlagsset sz (laneOf off) a.data
  | 0x3C => .wrUartFlagsclear sz (laneOf off) a.data
  | 0x40 => .wrUartFlagsenable sz (laneOf off) a.data
  | 0x44 => .wrUartTxdata sz (laneOf off) a.data a.ans
  | 0x48 => .wrUartRxdata sz (laneOf off) a.data
  | 0x4C => .wrUartCsr sz (laneOf off) a.data
  | 0x50 => .wrUartRxdatad sz (laneOf off) a.data
  | 0xE8 => .wrUartOcs sz (laneOf off) a.data
  | 0xEC => .wrUartKrstclr sz (laneOf off) a.data
  | 0xF0 => .wrUartKrst1 sz (laneOf off) a.data
  | 0xF4 => .wrUartKrst0 sz (laneOf off) a.data
  | 0xF8 => .wrUartAccen1 sz (laneOf off) a.data
  | 0xFC => .wrUartAccen0 sz (laneOf off) a.data
  | _ => .wrUartUndeclared sz off a.data a.ans

/-- The operation of a bus access (R111, R158). -/
def decodeBus (d : Dir) (sz : Size) (u : UnitId) (off : Offset) (a : Operand) : Instr :=
  match u, d with
  | .ir, d => decodeIr d sz off a
  | .ccu, .read => decodeCcuRead sz off
  | .ccu, .write => decodeCcuWrite sz off a
  | .stm, .read => decodeStmRead sz off
  | .stm, .write => decodeStmWrite sz off a
  | .uart, .read => decodeUartRead sz off
  | .uart, .write => decodeUartWrite sz off a

/-- `i` where the payload is below `limit`, that is, has no bit set outside the fields of the event's row (R112, R113). -/
def payloadBelow (limit payload : Nat) (i : Instr) : Except DecodeError Instr :=
  if payload < limit then .ok i else .error .payloadBits

/-- The operation of an event descriptor (R112). -/
def decodeEvent (code payload : Nat) (a : Operand) : Except DecodeError Instr :=
  match code with
  | 0x01 => payloadBelow 4 payload (.evReset (UnitId.ofCode (payload % 4)))
  | 0x02 => payloadBelow 1 payload .evResetAll
  | 0x03 => payloadBelow 1 payload (.evTime a.delta)
  | 0x04 => payloadBelow 1 payload .evAlarm
  | 0x05 => payloadBelow 1 payload (.evRx a.bytes)
  | 0x06 => payloadBelow 1 payload (.evWritable a.ans)
  | 0x07 => payloadBelow 2 payload (.evLock (payload % 2 == 1))
  | 0x08 => payloadBelow 512 payload (.evLevel (Fin.ofNat 256 payload) (payload / 256 % 2 == 1))
  | 0x09 => payloadBelow 1 payload .evSnapshot
  | 0x0A => payloadBelow 1 payload (.evRestore a.blob)
  | _ => .error .unknownEvent

/-- The operation of a descriptor's fields and operands. -/
def decodeForm (f : Form) (a : Operand) : Except DecodeError Instr :=
  match f with
  | .bus d sz u off => .ok (decodeBus d sz u off a)
  | .event code payload => decodeEvent code payload a

/-- The decoder: total, refusing exactly the descriptors that R113 refuses whatever the state and the parameters. -/
def decode (o : Op) : Except DecodeError Instr :=
  match Form.parse o.desc with
  | .error e => .error e
  | .ok f => decodeForm f o.args

/-- The fields of an operation's descriptor (R111, R112, and the layouts R120, R130, R140, R150). -/
def Instr.form : Instr → Form
  | .rdIrSrc i sz lane => .bus .read sz .ir (offsetOf (4 * i.val) lane)
  | .wrIrSrc i sz lane _ => .bus .write sz .ir (offsetOf (4 * i.val) lane)
  | .rdCcuPllstat sz lane => .bus .read sz .ccu (offsetOf 0x14 lane)
  | .wrCcuPllstat sz lane _ => .bus .write sz .ccu (offsetOf 0x14 lane)
  | .rdCcuPllcon0 sz lane => .bus .read sz .ccu (offsetOf 0x18 lane)
  | .wrCcuPllcon0 sz lane _ => .bus .write sz .ccu (offsetOf 0x18 lane)
  | .rdCcuPllcon1 sz lane => .bus .read sz .ccu (offsetOf 0x1C lane)
  | .wrCcuPllcon1 sz lane _ => .bus .write sz .ccu (offsetOf 0x1C lane)
  | .rdCcuCcucon0 sz lane => .bus .read sz .ccu (offsetOf 0x30 lane)
  | .wrCcuCcucon0 sz lane _ => .bus .write sz .ccu (offsetOf 0x30 lane)
  | .rdCcuCcucon1 sz lane => .bus .read sz .ccu (offsetOf 0x34 lane)
  | .wrCcuCcucon1 sz lane _ => .bus .write sz .ccu (offsetOf 0x34 lane)
  | .rdStmClc sz lane => .bus .read sz .stm (offsetOf 0x00 lane)
  | .wrStmClc sz lane _ => .bus .write sz .stm (offsetOf 0x00 lane)
  | .rdStmId sz lane => .bus .read sz .stm (offsetOf 0x08 lane)
  | .wrStmId sz lane _ => .bus .write sz .stm (offsetOf 0x08 lane)
  | .rdStmTim0 sz lane => .bus .read sz .stm (offsetOf 0x10 lane)
  | .wrStmTim0 sz lane _ => .bus .write sz .stm (offsetOf 0x10 lane)
  | .rdStmTim1 sz lane => .bus .read sz .stm (offsetOf 0x14 lane)
  | .wrStmTim1 sz lane _ => .bus .write sz .stm (offsetOf 0x14 lane)
  | .rdStmTim2 sz lane => .bus .read sz .stm (offsetOf 0x18 lane)
  | .wrStmTim2 sz lane _ => .bus .write sz .stm (offsetOf 0x18 lane)
  | .rdStmTim3 sz lane => .bus .read sz .stm (offsetOf 0x1C lane)
  | .wrStmTim3 sz lane _ => .bus .write sz .stm (offsetOf 0x1C lane)
  | .rdStmTim4 sz lane => .bus .read sz .stm (offsetOf 0x20 lane)
  | .wrStmTim4 sz lane _ => .bus .write sz .stm (offsetOf 0x20 lane)
  | .rdStmTim5 sz lane => .bus .read sz .stm (offsetOf 0x24 lane)
  | .wrStmTim5 sz lane _ => .bus .write sz .stm (offsetOf 0x24 lane)
  | .rdStmTim6 sz lane => .bus .read sz .stm (offsetOf 0x28 lane)
  | .wrStmTim6 sz lane _ => .bus .write sz .stm (offsetOf 0x28 lane)
  | .rdStmCap sz lane => .bus .read sz .stm (offsetOf 0x2C lane)
  | .wrStmCap sz lane _ => .bus .write sz .stm (offsetOf 0x2C lane)
  | .rdStmCmp0 sz lane => .bus .read sz .stm (offsetOf 0x30 lane)
  | .wrStmCmp0 sz lane _ => .bus .write sz .stm (offsetOf 0x30 lane)
  | .rdStmCmp1 sz lane => .bus .read sz .stm (offsetOf 0x34 lane)
  | .wrStmCmp1 sz lane _ => .bus .write sz .stm (offsetOf 0x34 lane)
  | .rdStmCmcon sz lane => .bus .read sz .stm (offsetOf 0x38 lane)
  | .wrStmCmcon sz lane _ => .bus .write sz .stm (offsetOf 0x38 lane)
  | .rdStmIcr sz lane => .bus .read sz .stm (offsetOf 0x3C lane)
  | .wrStmIcr sz lane _ => .bus .write sz .stm (offsetOf 0x3C lane)
  | .rdStmIscr sz lane => .bus .read sz .stm (offsetOf 0x40 lane)
  | .wrStmIscr sz lane _ => .bus .write sz .stm (offsetOf 0x40 lane)
  | .rdStmTim0sv sz lane => .bus .read sz .stm (offsetOf 0x50 lane)
  | .wrStmTim0sv sz lane _ => .bus .write sz .stm (offsetOf 0x50 lane)
  | .rdStmCapsv sz lane => .bus .read sz .stm (offsetOf 0x54 lane)
  | .wrStmCapsv sz lane _ => .bus .write sz .stm (offsetOf 0x54 lane)
  | .rdStmOcs sz lane => .bus .read sz .stm (offsetOf 0xE8 lane)
  | .wrStmOcs sz lane _ => .bus .write sz .stm (offsetOf 0xE8 lane)
  | .rdStmKrstclr sz lane => .bus .read sz .stm (offsetOf 0xEC lane)
  | .wrStmKrstclr sz lane _ => .bus .write sz .stm (offsetOf 0xEC lane)
  | .rdStmKrst1 sz lane => .bus .read sz .stm (offsetOf 0xF0 lane)
  | .wrStmKrst1 sz lane _ => .bus .write sz .stm (offsetOf 0xF0 lane)
  | .rdStmKrst0 sz lane => .bus .read sz .stm (offsetOf 0xF4 lane)
  | .wrStmKrst0 sz lane _ => .bus .write sz .stm (offsetOf 0xF4 lane)
  | .rdStmAccen1 sz lane => .bus .read sz .stm (offsetOf 0xF8 lane)
  | .wrStmAccen1 sz lane _ => .bus .write sz .stm (offsetOf 0xF8 lane)
  | .rdStmAccen0 sz lane => .bus .read sz .stm (offsetOf 0xFC lane)
  | .wrStmAccen0 sz lane _ => .bus .write sz .stm (offsetOf 0xFC lane)
  | .rdUartClc sz lane => .bus .read sz .uart (offsetOf 0x00 lane)
  | .wrUartClc sz lane _ => .bus .write sz .uart (offsetOf 0x00 lane)
  | .rdUartIocr sz lane => .bus .read sz .uart (offsetOf 0x04 lane)
  | .wrUartIocr sz lane _ => .bus .write sz .uart (offsetOf 0x04 lane)
  | .rdUartId sz lane => .bus .read sz .uart (offsetOf 0x08 lane)
  | .wrUartId sz lane _ => .bus .write sz .uart (offsetOf 0x08 lane)
  | .rdUartTxfifocon sz lane => .bus .read sz .uart (offsetOf 0x0C lane)
  | .wrUartTxfifocon sz lane _ => .bus .write sz .uart (offsetOf 0x0C lane)
  | .rdUartRxfifocon sz lane => .bus .read sz .uart (offsetOf 0x10 lane)
  | .wrUartRxfifocon sz lane _ => .bus .write sz .uart (offsetOf 0x10 lane)
  | .rdUartBitcon sz lane => .bus .read sz .uart (offsetOf 0x14 lane)
  | .wrUartBitcon sz lane _ => .bus .write sz .uart (offsetOf 0x14 lane)
  | .rdUartFramecon sz lane => .bus .read sz .uart (offsetOf 0x18 lane)
  | .wrUartFramecon sz lane _ => .bus .write sz .uart (offsetOf 0x18 lane)
  | .rdUartDatcon sz lane => .bus .read sz .uart (offsetOf 0x1C lane)
  | .wrUartDatcon sz lane _ => .bus .write sz .uart (offsetOf 0x1C lane)
  | .rdUartBrg sz lane => .bus .read sz .uart (offsetOf 0x20 lane)
  | .wrUartBrg sz lane _ => .bus .write sz .uart (offsetOf 0x20 lane)
  | .rdUartBrd sz lane => .bus .read sz .uart (offsetOf 0x24 lane)
  | .wrUartBrd sz lane _ => .bus .write sz .uart (offsetOf 0x24 lane)
  | .rdUartLincon sz lane => .bus .read sz .uart (offsetOf 0x28 lane)
  | .wrUartLincon sz lane _ => .bus .write sz .uart (offsetOf 0x28 lane)
  | .rdUartLinbtimer sz lane => .bus .read sz .uart (offsetOf 0x2C lane)
  | .wrUartLinbtimer sz lane _ => .bus .write sz .uart (offsetOf 0x2C lane)
  | .rdUartLinhtimer sz lane => .bus .read sz .uart (offsetOf 0x30 lane)
  | .wrUartLinhtimer sz lane _ => .bus .write sz .uart (offsetOf 0x30 lane)
  | .rdUartFlags sz lane => .bus .read sz .uart (offsetOf 0x34 lane)
  | .wrUartFlags sz lane _ => .bus .write sz .uart (offsetOf 0x34 lane)
  | .rdUartFlagsset sz lane => .bus .read sz .uart (offsetOf 0x38 lane)
  | .wrUartFlagsset sz lane _ => .bus .write sz .uart (offsetOf 0x38 lane)
  | .rdUartFlagsclear sz lane => .bus .read sz .uart (offsetOf 0x3C lane)
  | .wrUartFlagsclear sz lane _ => .bus .write sz .uart (offsetOf 0x3C lane)
  | .rdUartFlagsenable sz lane => .bus .read sz .uart (offsetOf 0x40 lane)
  | .wrUartFlagsenable sz lane _ => .bus .write sz .uart (offsetOf 0x40 lane)
  | .rdUartTxdata sz lane => .bus .read sz .uart (offsetOf 0x44 lane)
  | .wrUartTxdata sz lane _ _ => .bus .write sz .uart (offsetOf 0x44 lane)
  | .rdUartRxdata sz lane => .bus .read sz .uart (offsetOf 0x48 lane)
  | .wrUartRxdata sz lane _ => .bus .write sz .uart (offsetOf 0x48 lane)
  | .rdUartCsr sz lane => .bus .read sz .uart (offsetOf 0x4C lane)
  | .wrUartCsr sz lane _ => .bus .write sz .uart (offsetOf 0x4C lane)
  | .rdUartRxdatad sz lane => .bus .read sz .uart (offsetOf 0x50 lane)
  | .wrUartRxdatad sz lane _ => .bus .write sz .uart (offsetOf 0x50 lane)
  | .rdUartOcs sz lane => .bus .read sz .uart (offsetOf 0xE8 lane)
  | .wrUartOcs sz lane _ => .bus .write sz .uart (offsetOf 0xE8 lane)
  | .rdUartKrstclr sz lane => .bus .read sz .uart (offsetOf 0xEC lane)
  | .wrUartKrstclr sz lane _ => .bus .write sz .uart (offsetOf 0xEC lane)
  | .rdUartKrst1 sz lane => .bus .read sz .uart (offsetOf 0xF0 lane)
  | .wrUartKrst1 sz lane _ => .bus .write sz .uart (offsetOf 0xF0 lane)
  | .rdUartKrst0 sz lane => .bus .read sz .uart (offsetOf 0xF4 lane)
  | .wrUartKrst0 sz lane _ => .bus .write sz .uart (offsetOf 0xF4 lane)
  | .rdUartAccen1 sz lane => .bus .read sz .uart (offsetOf 0xF8 lane)
  | .wrUartAccen1 sz lane _ => .bus .write sz .uart (offsetOf 0xF8 lane)
  | .rdUartAccen0 sz lane => .bus .read sz .uart (offsetOf 0xFC lane)
  | .wrUartAccen0 sz lane _ => .bus .write sz .uart (offsetOf 0xFC lane)
  | .rdIrUndeclared sz off => .bus .read sz .ir off
  | .wrIrUndeclared sz off _ => .bus .write sz .ir off
  | .rdCcuUndeclared sz off => .bus .read sz .ccu off
  | .wrCcuUndeclared sz off _ => .bus .write sz .ccu off
  | .rdStmUndeclared sz off => .bus .read sz .stm off
  | .wrStmUndeclared sz off _ => .bus .write sz .stm off
  | .rdUartUndeclared sz off => .bus .read sz .uart off
  | .wrUartUndeclared sz off _ _ => .bus .write sz .uart off
  | .evReset u => .event 0x01 u.code
  | .evResetAll => .event 0x02 0
  | .evTime _ => .event 0x03 0
  | .evAlarm => .event 0x04 0
  | .evRx _ => .event 0x05 0
  | .evWritable _ => .event 0x06 0
  | .evLock l => .event 0x07 l.toNat
  | .evLevel i l => .event 0x08 (l.toNat * 256 + i.val)
  | .evSnapshot => .event 0x09 0
  | .evRestore _ => .event 0x0A 0

/-- The all-zero operands: data 0, the answer `accepted`, no time, no bytes, and a state of zeros (log 3). -/
def Operand.zero : Operand where
  data := 0#32
  ans := .accepted
  delta := 0
  bytes := []
  blob :=
    { router := Machine.Router.resetValue
      clock :=
        { pllcon0 := 0#32, pllcon1 := 0#32, ccucon0 := 0#32, ccucon1 := 0#32, findis := false, updPending := false
          est := { timer := 0#4, serial := 0#4, bus := 0#4 }, pllLocked := false }
      timer := Machine.Timer.resetValue 0
      uart := Machine.Uart.resetValue
      now := 0 }

/-- The operands an operation is presented with, zero where its row takes none (R112). -/
def Instr.operand : Instr → Operand
  | .rdIrSrc _ _ _ => Operand.zero
  | .wrIrSrc _ _ _ data => { Operand.zero with data := data }
  | .rdCcuPllstat _ _ => Operand.zero
  | .wrCcuPllstat _ _ data => { Operand.zero with data := data }
  | .rdCcuPllcon0 _ _ => Operand.zero
  | .wrCcuPllcon0 _ _ data => { Operand.zero with data := data }
  | .rdCcuPllcon1 _ _ => Operand.zero
  | .wrCcuPllcon1 _ _ data => { Operand.zero with data := data }
  | .rdCcuCcucon0 _ _ => Operand.zero
  | .wrCcuCcucon0 _ _ data => { Operand.zero with data := data }
  | .rdCcuCcucon1 _ _ => Operand.zero
  | .wrCcuCcucon1 _ _ data => { Operand.zero with data := data }
  | .rdStmClc _ _ => Operand.zero
  | .wrStmClc _ _ data => { Operand.zero with data := data }
  | .rdStmId _ _ => Operand.zero
  | .wrStmId _ _ data => { Operand.zero with data := data }
  | .rdStmTim0 _ _ => Operand.zero
  | .wrStmTim0 _ _ data => { Operand.zero with data := data }
  | .rdStmTim1 _ _ => Operand.zero
  | .wrStmTim1 _ _ data => { Operand.zero with data := data }
  | .rdStmTim2 _ _ => Operand.zero
  | .wrStmTim2 _ _ data => { Operand.zero with data := data }
  | .rdStmTim3 _ _ => Operand.zero
  | .wrStmTim3 _ _ data => { Operand.zero with data := data }
  | .rdStmTim4 _ _ => Operand.zero
  | .wrStmTim4 _ _ data => { Operand.zero with data := data }
  | .rdStmTim5 _ _ => Operand.zero
  | .wrStmTim5 _ _ data => { Operand.zero with data := data }
  | .rdStmTim6 _ _ => Operand.zero
  | .wrStmTim6 _ _ data => { Operand.zero with data := data }
  | .rdStmCap _ _ => Operand.zero
  | .wrStmCap _ _ data => { Operand.zero with data := data }
  | .rdStmCmp0 _ _ => Operand.zero
  | .wrStmCmp0 _ _ data => { Operand.zero with data := data }
  | .rdStmCmp1 _ _ => Operand.zero
  | .wrStmCmp1 _ _ data => { Operand.zero with data := data }
  | .rdStmCmcon _ _ => Operand.zero
  | .wrStmCmcon _ _ data => { Operand.zero with data := data }
  | .rdStmIcr _ _ => Operand.zero
  | .wrStmIcr _ _ data => { Operand.zero with data := data }
  | .rdStmIscr _ _ => Operand.zero
  | .wrStmIscr _ _ data => { Operand.zero with data := data }
  | .rdStmTim0sv _ _ => Operand.zero
  | .wrStmTim0sv _ _ data => { Operand.zero with data := data }
  | .rdStmCapsv _ _ => Operand.zero
  | .wrStmCapsv _ _ data => { Operand.zero with data := data }
  | .rdStmOcs _ _ => Operand.zero
  | .wrStmOcs _ _ data => { Operand.zero with data := data }
  | .rdStmKrstclr _ _ => Operand.zero
  | .wrStmKrstclr _ _ data => { Operand.zero with data := data }
  | .rdStmKrst1 _ _ => Operand.zero
  | .wrStmKrst1 _ _ data => { Operand.zero with data := data }
  | .rdStmKrst0 _ _ => Operand.zero
  | .wrStmKrst0 _ _ data => { Operand.zero with data := data }
  | .rdStmAccen1 _ _ => Operand.zero
  | .wrStmAccen1 _ _ data => { Operand.zero with data := data }
  | .rdStmAccen0 _ _ => Operand.zero
  | .wrStmAccen0 _ _ data => { Operand.zero with data := data }
  | .rdUartClc _ _ => Operand.zero
  | .wrUartClc _ _ data => { Operand.zero with data := data }
  | .rdUartIocr _ _ => Operand.zero
  | .wrUartIocr _ _ data => { Operand.zero with data := data }
  | .rdUartId _ _ => Operand.zero
  | .wrUartId _ _ data => { Operand.zero with data := data }
  | .rdUartTxfifocon _ _ => Operand.zero
  | .wrUartTxfifocon _ _ data => { Operand.zero with data := data }
  | .rdUartRxfifocon _ _ => Operand.zero
  | .wrUartRxfifocon _ _ data => { Operand.zero with data := data }
  | .rdUartBitcon _ _ => Operand.zero
  | .wrUartBitcon _ _ data => { Operand.zero with data := data }
  | .rdUartFramecon _ _ => Operand.zero
  | .wrUartFramecon _ _ data => { Operand.zero with data := data }
  | .rdUartDatcon _ _ => Operand.zero
  | .wrUartDatcon _ _ data => { Operand.zero with data := data }
  | .rdUartBrg _ _ => Operand.zero
  | .wrUartBrg _ _ data => { Operand.zero with data := data }
  | .rdUartBrd _ _ => Operand.zero
  | .wrUartBrd _ _ data => { Operand.zero with data := data }
  | .rdUartLincon _ _ => Operand.zero
  | .wrUartLincon _ _ data => { Operand.zero with data := data }
  | .rdUartLinbtimer _ _ => Operand.zero
  | .wrUartLinbtimer _ _ data => { Operand.zero with data := data }
  | .rdUartLinhtimer _ _ => Operand.zero
  | .wrUartLinhtimer _ _ data => { Operand.zero with data := data }
  | .rdUartFlags _ _ => Operand.zero
  | .wrUartFlags _ _ data => { Operand.zero with data := data }
  | .rdUartFlagsset _ _ => Operand.zero
  | .wrUartFlagsset _ _ data => { Operand.zero with data := data }
  | .rdUartFlagsclear _ _ => Operand.zero
  | .wrUartFlagsclear _ _ data => { Operand.zero with data := data }
  | .rdUartFlagsenable _ _ => Operand.zero
  | .wrUartFlagsenable _ _ data => { Operand.zero with data := data }
  | .rdUartTxdata _ _ => Operand.zero
  | .wrUartTxdata _ _ data ans => { Operand.zero with data := data, ans := ans }
  | .rdUartRxdata _ _ => Operand.zero
  | .wrUartRxdata _ _ data => { Operand.zero with data := data }
  | .rdUartCsr _ _ => Operand.zero
  | .wrUartCsr _ _ data => { Operand.zero with data := data }
  | .rdUartRxdatad _ _ => Operand.zero
  | .wrUartRxdatad _ _ data => { Operand.zero with data := data }
  | .rdUartOcs _ _ => Operand.zero
  | .wrUartOcs _ _ data => { Operand.zero with data := data }
  | .rdUartKrstclr _ _ => Operand.zero
  | .wrUartKrstclr _ _ data => { Operand.zero with data := data }
  | .rdUartKrst1 _ _ => Operand.zero
  | .wrUartKrst1 _ _ data => { Operand.zero with data := data }
  | .rdUartKrst0 _ _ => Operand.zero
  | .wrUartKrst0 _ _ data => { Operand.zero with data := data }
  | .rdUartAccen1 _ _ => Operand.zero
  | .wrUartAccen1 _ _ data => { Operand.zero with data := data }
  | .rdUartAccen0 _ _ => Operand.zero
  | .wrUartAccen0 _ _ data => { Operand.zero with data := data }
  | .rdIrUndeclared _ _ => Operand.zero
  | .wrIrUndeclared _ _ data => { Operand.zero with data := data }
  | .rdCcuUndeclared _ _ => Operand.zero
  | .wrCcuUndeclared _ _ data => { Operand.zero with data := data }
  | .rdStmUndeclared _ _ => Operand.zero
  | .wrStmUndeclared _ _ data => { Operand.zero with data := data }
  | .rdUartUndeclared _ _ => Operand.zero
  | .wrUartUndeclared _ _ data ans => { Operand.zero with data := data, ans := ans }
  | .evReset _ => Operand.zero
  | .evResetAll => Operand.zero
  | .evTime delta => { Operand.zero with delta := delta }
  | .evAlarm => Operand.zero
  | .evRx bytes => { Operand.zero with bytes := bytes }
  | .evWritable ans => { Operand.zero with ans := ans }
  | .evLock _ => Operand.zero
  | .evLevel _ _ => Operand.zero
  | .evSnapshot => Operand.zero
  | .evRestore blob => { Operand.zero with blob := blob }

/-- The encoder: the descriptor and operands of an operation (R162). -/
def encode (i : Instr) : Op := { desc := i.form.toWord, args := i.operand }

/-- The operation whose first word is the number `w`, all its operands zero. -/
def Op.ofNumber (w : Nat) : Op := { desc := BitVec.ofNat 32 w, args := Operand.zero }

/-- The operation the decoder reads from a descriptor given as a number; the table gives every row 32 bits, and the operands beside it
are zero. -/
def decodeTableWord (_nbits w : Nat) : Option Instr :=
  match decode (Op.ofNumber w) with
  | .ok i => some i
  | .error _ => none

end Sys2Proof
end

