-- ==== Sys2Proof/Machine/State.lean ====
section
/-! DEFINITION. The machine's state, plain data: the architectural state of 10_state.md (`Block`), the parameters, the output traces,
what the last operation returned, guest memory, and the operations still to be taken; the reasons an operation stops; the state
right after power-on. -/

namespace Sys2Proof.Machine

/-- The clock domains (R26, R234). -/
inductive Domain where
  | timer
  | serial
  | bus
  deriving DecidableEq, Repr

/-- What made a frequency illegal (R400 row 2, R231, R232). -/
inductive ClockCause where
  | mode
  | insel (v : Nat)
  deriving DecidableEq, Repr

/-- A collaborator the block needs at construction (R420). -/
inductive Collaborator where
  /-- The CPU the router drives. -/
  | cpuConsumer
  /-- The clock unit the timer reads. -/
  | clockUnit
  deriving DecidableEq, Repr

/-- The diagnostics of R400, in the order of their codes, with the information each records. -/
inductive Diag where
  | unknownRegister (u : UnitId) (off : Offset) (d : Dir)
  | illegalClockConfiguration (cause : ClockCause)
  | unimplementedClockMode
  | receiveOverflow (dropped : Nat)
  /-- "Silently drained": no operation puts it into the trace (R400; log 24). -/
  | transportUnavailable
  /-- Reported at construction, before there is a trace (R420; log 24). -/
  | missingRequiredCollaborator (c : Collaborator)
  | suspiciousDivider (dom : Domain) (v : BitVec 4)
  deriving DecidableEq, Repr

/-- A request to the transport (R39): the bytes of a delivery attempt, or the request to resume pushing. -/
inductive Emission where
  | write (bytes : List Byte)
  | acceptInput
  deriving DecidableEq, Repr

/-- What an operation returns: a read its data (R87, R110), SNAPSHOT the state (R472), any other nothing (log 9). -/
inductive Result where
  | nothing
  | data (v : Word)
  | blob (b : Block)
  deriving DecidableEq, Repr

/-- An operation to be taken, with the CPU stores to guest memory that precede it, oldest first (R98; log 12). -/
structure Entry where
  stores : List Host.Cell
  op : Op
  deriving DecidableEq, Repr

/-- Why the machine stops with a fault. -/
inductive Fault where
  /-- Raised by `construct` alone, where a required collaborator is absent (R420, U21): there is no initial state. Safe. -/
  | missingRequiredCollaborator (c : Collaborator)
  deriving DecidableEq, Repr

/-- Why an operation has no step (D3: "refused"). Each is safe: the model stops where the spec has no step. -/
inductive Refusal where
  /-- Raised by `exec`'s arm of an instruction that has no meaning yet; no arm raises it. Safe. -/
  | notModelled (mnemonic : String)
  /-- Raised by `step`: the decoder refuses the descriptor (R113). Safe. -/
  | undecodable (e : DecodeError)
  /-- Raised by a bus access whose offset is no multiple of its size (R82). Safe. -/
  | misaligned
  /-- Raised by a bus access that does not end inside its unit's window (R82). Safe. -/
  | outsideWindow
  /-- Raised by LEVEL on a source that the timer or the UART owns (R113, R208). Safe. -/
  | ownedSource
  /-- Raised by ALARM while no alarm is armed (R319, U10). Safe. -/
  | alarmNotArmed
  /-- Raised by ALARM before the armed deadline (R319, U10). Safe. -/
  | alarmNotDue
  /-- Raised by RX and WRITABLE where there is no transport (R388, R389, U10). Safe. -/
  | noTransport
  /-- Raised by WRITABLE while no retry is armed or no item is pending (R388, U10). Safe. -/
  | noRetryPending
  /-- Raised by RESTORE on a blob no SNAPSHOT returns (R473, U24; log 13). Safe. -/
  | notASnapshot
  /-- Raised by `step` when every operation of the input has been taken (R20; log 1). Safe. -/
  | inputExhausted
  /-- Raised by `construct` on parameters that break the constraints of the spec (D5; log 20). Safe. -/
  | illFormedParameters
  deriving DecidableEq, Repr

/-- The state of the machine. -/
structure State extends Block where
  /-- The parameters (R6); no operation changes them. -/
  cfg : Params
  /-- The trace of diagnostics (R38): for each operation that reports, oldest first, the set of what it reported. How often and
  in what order an operation reports the members of its set is not held (R403, D44; log 8). -/
  diag : List (List Diag)
  /-- The transport requests emitted, oldest first (R39; log 10). -/
  emitted : List Emission
  /-- What the last operation returned (the model's own field; log 9). -/
  result : Result
  /-- Guest memory (R81; the model's own field; log 11). -/
  guest : Memory
  /-- The operations still to be taken (R20, D47; the model's own field; log 1). -/
  input : List Entry
  deriving DecidableEq, Repr

/-- The outcomes of one operation. -/
abbrev Outcome := Host.Outcome State Fault Refusal

/-- The power-on state of a block with the parameters `p`: the values of R42 and R456, empty traces, no operation given. -/
def State.init (p : Params) : State where
  toBlock := Block.powerOn
  cfg := p
  diag := []
  emitted := []
  result := .nothing
  guest := []
  input := []

/-- The machine right after power-on (R456), with the parameters of 95_test_vectors.md (DESIGN CHOICE, log 4). -/
def State.reset : State := State.init Params.reference

end Sys2Proof.Machine
end

