-- ==== Sys2Proof/Machine/Operands.lean ====
section
/-! DEFINITION. The operand forms of a bus access: sizes, admission, the lane selection of reads and the byte-lane merge of writes
(R82 to R87), and the offsets of the block-transfer pair (D42). -/

namespace Sys2Proof.Machine

/-- The size of an access in bytes, `n = 2^SZ` (R111). -/
def sizeBytes : Size → Nat
  | .byte => 1
  | .half => 2
  | .word => 4

/-- `m = 2^(8n) - 1` (R82). -/
def laneMask (sz : Size) : Word := BitVec.ofNat 32 (2 ^ (8 * sizeBytes sz) - 1)

/-- What a read of the lanes `lane ..` of the word `full` returns: `zext32((full >> 8*lane) & m)` (R87). -/
def selectLanes (full : Word) (lane : Lane) (sz : Size) : Word := (full >>> (8 * lane.val)) &&& laneMask sz

/-- The byte-lane merge: `(cur & ~(m << 8*lane)) | ((d & m) << 8*lane)` (R85). -/
def mergeLanes (cur d : Word) (lane : Lane) (sz : Size) : Word :=
  (cur &&& ~~~(laneMask sz <<< (8 * lane.val))) ||| ((d &&& laneMask sz) <<< (8 * lane.val))

/-- `WSIZE(U)` (R80); the router's window may be larger than 0x400 (R207; log 6). -/
def windowSize (p : Params) : UnitId → Nat
  | .ir => p.irWindow
  | .ccu => 0x100
  | .stm => 0x100
  | .uart => 0x100

/-- Why an access of size `sz` at the byte offset `off` of a window of `win` bytes is refused; none where it is admitted (R82). -/
def admission (win off : Nat) (sz : Size) : Option Refusal :=
  if off % sizeBytes sz ≠ 0 then some .misaligned
  else if off + sizeBytes sz > win then some .outsideWindow
  else none

/-- The registers of the block-transfer pair (R392, R393). -/
inductive BlkReg where
  | addr
  | len
  deriving DecidableEq, Repr

/-- The block-transfer register at the byte offset `off` of the UART window, where the platform has the pair (D42). -/
def blkRegAt (p : Params) (off : Offset) : Option BlkReg :=
  if p.blkPresent then
    if wordOffset off = p.blkAddrOff then some .addr
    else if wordOffset off = p.blkLenOff then some .len
    else none
  else none

/-- The bus address of a unit's byte offset (R80); no operation uses it. -/
def busAddress (u : UnitId) (off : Offset) : Nat :=
  match u with
  | .ir => Config.irBase + off.val
  | .ccu => Config.ccuBase + off.val
  | .stm => Config.stmBase + off.val
  | .uart => Config.uartBase + off.val

end Sys2Proof.Machine
end

