-- ==== Sys2Proof/Machine/Flags.lean ====
section
/-! DEFINITION. The flag computations (R40): the read values of the status registers, the UART's flags and line levels, the timer's
level, the backpressure predicate, and the codes of the diagnostics. -/

namespace Sys2Proof.Machine

/-- The read value of a source word (R121, R205). -/
def srcRead (x : Source) : Word := x.prio.setWidth 32 ||| flagAt 10 x.enabled ||| flagAt 24 x.pending

/-- The read value of PLLSTAT (R131, R236). -/
def pllstatRead (c : Clock) : Word :=
  flagAt 0 (bit 0 c.pllcon0) ||| flagAt 2 c.pllLocked ||| flagAt 3 c.findis ||| flagAt 4 true ||| flagAt 5 true

/-- The read value of CCUCON0: the stored bits 29:0 and the latch at bit 30 (R134, R242). -/
def ccucon0Read (c : Clock) : Word := (c.ccucon0 &&& 0x3FFFFFFF#32) ||| flagAt 30 c.updPending

/-- The read value of ICR (R141, R297). -/
def icrRead (t : Timer) : Word :=
  flagAt 0 t.cmp0.en ||| flagAt 1 t.cmp0.ir ||| flagAt 2 t.cmp0.os |||
    flagAt 4 t.cmp1.en ||| flagAt 5 t.cmp1.ir ||| flagAt 6 t.cmp1.os

/-- The timer's interrupt level, `ir[0] or ir[1]` (R320). -/
def timerLevel (t : Timer) : Bool := t.cmp0.ir || t.cmp1.ir

/-- The UART's flags (R151). -/
inductive UartFlag where
  | th | tr | rh | rr | fed | red | twrq | thrq | trrq | pe | tc | fe | ht | rt | bd | lp | la | lc | ce | rfo | rfu | rfl | tfo | tfl
  deriving DecidableEq, Repr

/-- The bit position of a flag in FLAGS, FLAGSSET, FLAGSCLEAR and FLAGSENABLE (R151). -/
def uartFlagBit : UartFlag → Nat
  | .th => 0 | .tr => 1 | .rh => 2 | .rr => 3 | .fed => 5 | .red => 6 | .twrq => 13 | .thrq => 14 | .trrq => 15
  | .pe => 16 | .tc => 17 | .fe => 18 | .ht => 19 | .rt => 20 | .bd => 21 | .lp => 22 | .la => 23 | .lc => 24 | .ce => 25
  | .rfo => 26 | .rfu => 27 | .rfl => 28 | .tfo => 30 | .tfl => 31

/-- The word with the bits of the listed flags set. -/
def flagMask (fs : List UartFlag) : Word := fs.foldl (fun w f => w ||| flagAt (uartFlagBit f) true) 0#32

/-- `FLAGS_DEF`, the defined flag bits (R151). -/
def flagsDefined : Word := 0xDFFFE06F#32

/-- `MASK_RX`: RFL (R151, R332). -/
def maskRx : Word := 0x10000000#32

/-- `MASK_TX`: TFL and TC (R151, R332). -/
def maskTx : Word := 0x80020000#32

/-- `MASK_ERR`: the error flags (R151, R332). -/
def maskErr : Word := 0x4FFD0000#32

/-- The number of buffered bytes, `(wr - rd) mod 8192` (R34). -/
def ringUsed (u : Uart) : Nat := (u.wr - u.rd).val

/-- The free capacity, `8191 - used` (R34). -/
def ringFree (u : Uart) : Nat := 8191 - ringUsed u

/-- The byte in a ring slot (R34). -/
def ringByte (u : Uart) (k : Cursor) : Byte := Memory.read u.ring k.val

/-- The read value of FLAGS: the stored bits, RFL computed from the cursors, TFL always 1 (R331). -/
def flagsRead (u : Uart) : Word :=
  (u.flags &&& flagsStored) ||| flagAt 28 (u.rd ≠ u.wr) ||| flagAt 31 true

/-- One of the UART's line levels: a flag of the mask is up and enabled (R332). -/
def lineLevel (mask : Word) (u : Uart) : Bool := flagsRead u &&& u.flagsenable &&& mask ≠ 0#32

/-- The RX level (R332). -/
def rxLevel (u : Uart) : Bool := lineLevel maskRx u

/-- The TX level (R332). -/
def txLevel (u : Uart) : Bool := lineLevel maskTx u

/-- The error level (R332). -/
def errLevel (u : Uart) : Bool := lineLevel maskErr u

/-- The read value of RXDATA and RXDATAD: the byte at the read cursor (R369, R373). -/
def rxdataRead (u : Uart) : Word := (ringByte u u.rd).setWidth 32

/-- The backpressure predicate the transport reads between operations (R390). -/
def canReceive (u : Uart) : Bool := bit 1 u.rxfifocon && decide (ringFree u > 0)

/-- The 27 words of the UART's register file, in the order of R150. -/
inductive UartReg where
  | clc | iocr | id | txfifocon | rxfifocon | bitcon | framecon | datcon | brg | brd | lincon | linbtimer | linhtimer | flags | flagsset
  | flagsclear | flagsenable | txdata | rxdata | csr | rxdatad | ocs | krstclr | krst1 | krst0 | accen1 | accen0
  deriving DecidableEq, Repr

/-- `UART.<REG>.word`: the stored word, the parameter for ID, 0 for the command registers, and for RXDATA and RXDATAD, whose words are
not used, 0 (R33, R42; log 17). -/
def uartWord (p : Params) (u : Uart) : UartReg → Word
  | .clc => u.clc
  | .iocr => u.iocr
  | .id => p.uartId
  | .txfifocon => u.txfifocon
  | .rxfifocon => u.rxfifocon
  | .bitcon => u.bitcon
  | .framecon => u.framecon
  | .datcon => u.datcon
  | .brg => u.brg
  | .brd => u.brd
  | .lincon => u.lincon
  | .linbtimer => u.linbtimer
  | .linhtimer => u.linhtimer
  | .flags => u.flags
  | .flagsset => 0#32
  | .flagsclear => 0#32
  | .flagsenable => u.flagsenable
  | .txdata => 0#32
  | .rxdata => 0#32
  | .csr => u.csr
  | .rxdatad => 0#32
  | .ocs => u.ocs
  | .krstclr => u.krstclr
  | .krst1 => u.krst1
  | .krst0 => u.krst0
  | .accen1 => u.accen1
  | .accen0 => u.accen0

/-- The numeric code of a diagnostic (R400). -/
def diagCode : Diag → Nat
  | .unknownRegister _ _ _ => 1
  | .illegalClockConfiguration _ => 2
  | .unimplementedClockMode => 3
  | .receiveOverflow _ => 4
  | .transportUnavailable => 5
  | .missingRequiredCollaborator _ => 6
  | .suspiciousDivider _ _ => 7

end Sys2Proof.Machine
end

