-- ==== Sys2Proof/Machine/Frequency.lean ====
section
/-! DEFINITION. The clock unit's frequency functions and what each query reports (R230 to R235), and the counter and taps of the timer
(R270). All arithmetic is exact on natural numbers with floor division (D17). -/

namespace Sys2Proof.Machine

/-- The mode of the PLL (R230). -/
inductive ClockMode where
  | normal
  | prescaler
  | freerunning
  | illegal
  deriving DecidableEq, Repr

/-- The mode, a function of the state, in the order bypass, free-run, lock (R230, D61). -/
def clockMode (c : Clock) : ClockMode :=
  if bit 0 c.pllcon0 then .prescaler
  else if c.findis then .freerunning
  else if c.pllLocked then .normal
  else .illegal

/-- INSEL, `CCUCON1.word[29:28]` (R135, R231). -/
def insel (c : Clock) : Nat := bits 29 28 c.ccucon1

/-- The oscillator frequency in Hz (R231). -/
def oscillatorFrequency (p : Params) (c : Clock) : Nat :=
  if insel c = 0 then p.fIn0 else if insel c = 1 then p.fIn1 else 0

/-- What an oscillator query reports (R231). -/
def oscillatorDiags (c : Clock) : List Diag :=
  if insel c = 0 ∨ insel c = 1 then [] else [.illegalClockConfiguration (.insel (insel c))]

/-- `N = NDIV + 1` (R132, R155). -/
def factorN (c : Clock) : Nat := bits 15 9 c.pllcon0 + 1

/-- `P = PDIV + 1` (R132, R155). -/
def factorP (c : Clock) : Nat := bits 27 24 c.pllcon0 + 1

/-- `K1 = K1DIV + 1` (R133, R155, D13). -/
def factorK1 (c : Clock) : Nat := bits 22 16 c.pllcon1 + 1

/-- `K2 = K2DIV + 1` (R133, R155). -/
def factorK2 (c : Clock) : Nat := bits 6 0 c.pllcon1 + 1

/-- The PLL frequency in Hz (R232). -/
def pllFrequency (p : Params) (c : Clock) : Nat :=
  match clockMode c with
  | .normal => oscillatorFrequency p c * factorN c / (factorP c * factorK2 c)
  | .prescaler => oscillatorFrequency p c / factorK1 c
  | .freerunning => 0
  | .illegal => 0

/-- The mode-specific diagnostic (R232, R239). -/
def modeDiags (c : Clock) : List Diag :=
  match clockMode c with
  | .normal => []
  | .prescaler => []
  | .freerunning => [.unimplementedClockMode]
  | .illegal => [.illegalClockConfiguration .mode]

/-- What a PLL query reports: the oscillator is queried in every mode (R232). -/
def pllDiags (c : Clock) : List Diag := oscillatorDiags c ++ modeDiags c

/-- The established divider of a domain (R233). -/
def establishedDivider (e : Established) : Domain → BitVec 4
  | .timer => e.timer
  | .serial => e.serial
  | .bus => e.bus

/-- The frequency of a domain in Hz: 0 where its established divider is 0 (R233). -/
def derivedClock (p : Params) (c : Clock) (d : Domain) : Nat :=
  if establishedDivider c.est d = 0#4 then 0 else pllFrequency p c / (establishedDivider c.est d).toNat

/-- What a query of a domain's frequency reports: with the divider 0 the PLL is not queried (R233; log 19). -/
def derivedDiags (c : Clock) (d : Domain) : List Diag :=
  if establishedDivider c.est d = 0#4 then [] else pllDiags c

/-- What an arming reports of its frequency query: all of it or nothing, which the spec leaves open, R317 saying that arming reports nothing
and R232 and R400 that every query reports (log 26). -/
def armingDiags (c : Clock) : List Diag := (derivedDiags c .timer).filter fun _ => Config.armingReports

/-- The reserved divider values (R235). -/
def suspiciousValue (v : BitVec 4) : Bool := v = 7#4 || v = 9#4 || v = 11#4 || v = 13#4 || v = 14#4

/-- What a commit that establishes `e` reports (R235, R243). -/
def dividerDiags (e : Established) : List Diag :=
  ([.bus, .timer, .serial] : List Domain).filterMap fun d =>
    if suspiciousValue (establishedDivider e d) then some (.suspiciousDivider d (establishedDivider e d)) else none

/-- The timer-domain frequency, queried now (R270). -/
def timerFrequency (s : State) : Nat := derivedClock s.cfg s.clock .timer

/-- `tick()`, the 64-bit counter synthesized from the elapsed virtual time (R270). -/
def tick (s : State) : Nat := (s.now - s.timer.t0) * timerFrequency s / 10 ^ 9 % 2 ^ 64

/-- `tap(shift)`, 32 bits of the counter from bit `shift` on (R270). -/
def tap (s : State) (shift : Nat) : Word := BitVec.ofNat 32 (tick s / 2 ^ shift)

end Sys2Proof.Machine
end

