-- ==== Sys2Proof/Machine/Ops.lean ====
section
/-! DEFINITION. The shared operations. `evaluate` is what this block has in the place of taking an exception: the one operation that drives
the interrupt line and priority toward the CPU (R202, R405, R409). Around it: the level inputs and sends, the traces, the access
algorithm (R82 to R88), the alarm engine (R317), the transmit path (R387, R368), the receive path (R389), the reset of each unit
(R452 to R455), and the restore (R473). -/

namespace Sys2Proof.Machine

/-- `s` with its router replaced. -/
def State.onRouter (f : Router → Router) (s : State) : State := { s with router := f s.router }

/-- `s` with its clock unit replaced. -/
def State.onClock (f : Clock → Clock) (s : State) : State := { s with clock := f s.clock }

/-- `s` with its timer replaced. -/
def State.onTimer (f : Timer → Timer) (s : State) : State := { s with timer := f s.timer }

/-- `s` with its UART replaced. -/
def State.onUart (f : Uart → Uart) (s : State) : State := { s with uart := f s.uart }

/-- `s` with what the operation returns. -/
def State.returning (r : Result) (s : State) : State := { s with result := r }

/-- `s` after an operation reported the set `ds`; an operation that reports nothing leaves the trace alone (R38, R400; log 8). -/
def State.report (ds : List Diag) (s : State) : State :=
  { s with
    diag :=
      match ds with
      | [] => s.diag
      | _ :: _ => s.diag ++ [ds] }

/-- `s` after a request to the transport (R39). -/
def State.emit (e : Emission) (s : State) : State := { s with emitted := s.emitted ++ [e] }

/-- The source qualifies: `pending and (enabled or i == RESET_INDEX)` (R202). -/
def qualifies (resetIndex i : Nat) (x : Source) : Bool := x.pending && (x.enabled || i == resetIndex)

/-- The first qualifying source of the list, whose first element has the index `i` (R202). -/
def firstQualifying (resetIndex : Nat) : Nat → List Source → Option Source
  | _, [] => none
  | i, x :: rest => if qualifies resetIndex i x then some x else firstQualifying resetIndex (i + 1) rest

/-- The winner of the arbitration: the qualifying source of the lowest index, whatever its priority number (R202, R407). -/
def winner (p : Params) (r : Router) : Option Source := firstQualifying p.resetIndex.val 0 r.src.toList

/-- `evaluate()` on the router: with a winner its priority number goes to the CPU and the line is raised, else the line is lowered
and the priority number is held (R202). -/
def arbitrate (p : Params) (r : Router) : Router :=
  match winner p r with
  | some x => { r with cpuPrio := x.prio, line := true }
  | none => { r with line := false }

/-- `evaluate()` (R202). -/
def evaluate (s : State) : State := { s with router := arbitrate s.cfg s.router }

/-- `setLevel(i, l)`: nothing where the pending bit equals the level, else flip it and evaluate (R201). -/
def setLevel (i : SourceIndex) (l : Bool) (s : State) : State :=
  if (s.router.source i).pending = l then s
  else evaluate (s.onRouter fun r => r.setSource i { r.source i with pending := l })

/-- The timer's level send (R320). -/
def sendTimer (s : State) : State := setLevel s.cfg.timerSrc (timerLevel s.timer) s

/-- The UART's level send, in the order RX, TX, ERR (R391). -/
def sendUart (s : State) : State :=
  setLevel s.cfg.uartErrSrc (errLevel s.uart)
    (setLevel s.cfg.uartTxSrc (txLevel s.uart) (setLevel s.cfg.uartRxSrc (rxLevel s.uart) s))

/-- The after-access actions of a window (R88 (a), (b)); a source word's write evaluates by itself (R88 (c), R206). -/
def afterAccess (u : UnitId) (d : Dir) (s : State) : State :=
  match u, d with
  | .uart, _ => sendUart s
  | .stm, .write => sendTimer s
  | .stm, .read => s
  | .ccu, _ => s
  | .ir, _ => s

/-- A bus access of size `sz` at the byte offset `off` of unit `u`: refused where R82 does not admit it, else `body` in one step. -/
def access (u : UnitId) (off : Nat) (sz : Size) (body : State → State) (s : State) : Outcome :=
  match admission (windowSize s.cfg u) off sz with
  | some r => .refused r
  | none => .next (body s)

/-- The read of the declared register at the word offset `w` (R87): `cur` is its read value, `effect` its read side effect. -/
def readReg (u : UnitId) (w : Nat) (sz : Size) (lane : Lane) (cur : State → Word) (effect : State → State) (s : State) : Outcome :=
  access u (w + lane.val) sz
    (fun s => afterAccess u .read ((effect s).returning (.data (selectLanes (cur s) lane sz)))) s

/-- The write of the declared register at the word offset `w` (R85): `cur` is `CurrentWord`, which the data is merged into, and
`effect` the register's word-level write rule on the merged word. -/
def writeReg (u : UnitId) (w : Nat) (sz : Size) (lane : Lane) (data : Word) (cur : State → Word) (effect : Word → State → State)
    (s : State) : Outcome :=
  access u (w + lane.val) sz
    (fun s => afterAccess u .write ((effect (mergeLanes (cur s) data lane sz) s).returning .nothing)) s

/-- A write rule that ignores the word (D43). -/
def ignoreWrite (_v : Word) (s : State) : State := s

/-- A read of an undeclared offset: 0, and a report (R84). -/
def readUndeclared (u : UnitId) (sz : Size) (off : Offset) (s : State) : Outcome :=
  access u off.val sz
    (fun s => afterAccess u .read ((s.report [.unknownRegister u off .read]).returning (.data 0#32))) s

/-- A write of an undeclared offset: ignored, and a report (R84). -/
def writeUndeclared (u : UnitId) (sz : Size) (off : Offset) (s : State) : Outcome :=
  access u off.val sz
    (fun s => afterAccess u .write ((s.report [.unknownRegister u off .write]).returning .nothing)) s

/-- The ENCMD command of a source word: 0b00 and 0b01 no-op, 0b10 setEnabled, 0b11 clearEnabled (R121, R206). -/
def commandEnabled (v : Word) (enabled : Bool) : Bool :=
  if bits 10 9 v = 2 then true else if bits 10 9 v = 3 then false else enabled

/-- The pending bit after the clear bit `clr` and then the set bit `set` of one write (R97, R206, R239, R300). -/
def clearThenSet (clr set : Bool) (b : Bool) : Bool := set || (!clr && b)

/-- The source slot after a write of its word (R206). -/
def configureSource (v : Word) (x : Source) : Source where
  prio := v.extractLsb' 0 8
  enabled := commandEnabled v x.enabled
  pending := clearThenSet (bit 25 v) (bit 26 v) x.pending

/-- The write rule of PLLCON0 (R239). -/
def writePllcon0 (v : Word) (s : State) : State :=
  let s1 := s.onClock fun c =>
    { c with findis := clearThenSet (bit 5 v) (bit 4 v) c.findis, pllcon0 := v &&& ~~~0x00000030#32 }
  s1.report (modeDiags s1.clock)

/-- The dividers a commit establishes from the two words (R134, R135, R243). -/
def committedDividers (ccucon0 ccucon1 : Word) : Established where
  bus := divider 16 ccucon0
  timer := divider 8 ccucon1
  serial := divider 24 ccucon1

/-- The write rule of CCUCON0, `establishConfiguration` (R243). -/
def writeCcucon0 (v : Word) (s : State) : State :=
  let s1 := s.onClock fun c => { c with ccucon0 := v &&& 0x3FFFFFFF#32 }
  if bit 30 v then s1.onClock fun c => { c with updPending := true }
  else
    let e := committedDividers s1.clock.ccucon0 s1.clock.ccucon1
    (s1.onClock fun c => { c with est := e, updPending := false }).report (dividerDiags e)

/-- A tap read's report of its frequency query (R232, R270, R400). -/
def reportTap (s : State) : State := s.report (derivedDiags s.clock .timer)

/-- The side effect of reading TIM0 to TIM5: the upper half of the instant goes to CAP (R275 to R285). -/
def captureCap (s : State) : State := reportTap (s.onTimer fun t => { t with cap := tap s 32 })

/-- The side effect of reading TIM0SV: the upper half of the instant goes to CAPSV (R301). -/
def captureCapsv (s : State) : State := reportTap (s.onTimer fun t => { t with capsv := tap s 32 })

/-- The deadline that arming channel `c` computes at the frequency `f`: `now + ceil(d * 10^9 / f)`, with `d` the distance of the compare
value from the shift-0 tap modulo 2^32 (R317, D22, D24). -/
def deadlineFor (c : Channel) (f : Nat) (s : State) : Nat :=
  s.now + ceilDiv (((s.timer.chan c).word - tap s 0).toNat * 10 ^ 9) f

/-- `s` with its alarm cancelled (R318). -/
def cancelAlarm (s : State) : State := s.onTimer fun t => { t with alarm := none }

/-- The alarm that arming channel `c` leaves: the channel's where the timer domain runs, else none (R317). -/
def armedAlarm (c : Channel) (s : State) : Option Alarm :=
  if timerFrequency s > 0 then some { deadline := deadlineFor c (timerFrequency s) s, ch := c } else none

/-- `arm(c)`: cancel; where the channel is enabled, query the timer-domain frequency and arm (R317, R318, R321). What the query reports
is left open (log 26). -/
def arm (c : Channel) (s : State) : State :=
  if (s.timer.chan c).en then (s.onTimer fun t => { t with alarm := armedAlarm c s }).report (armingDiags s.clock)
  else cancelAlarm s

/-- The write rule of CMP0 and CMP1 (R292, R294). -/
def writeCompare (c : Channel) (v : Word) (s : State) : State :=
  arm c (s.onTimer fun t => t.setChan c { t.chan c with word := v })

/-- The write rule of ICR (R298). -/
def writeIcr (v : Word) (s : State) : State :=
  let s1 := cancelAlarm (s.onTimer fun t =>
    { t with cmp0 := { t.cmp0 with en := bit 0 v, os := bit 2 v }, cmp1 := { t.cmp1 with en := bit 4 v, os := bit 6 v } })
  if s1.timer.cmp0.en then arm .ch0 s1 else if s1.timer.cmp1.en then arm .ch1 s1 else s1

/-- The write rule of ISCR (R300). -/
def writeIscr (v : Word) (s : State) : State :=
  s.onTimer fun t =>
    { t with
      cmp0 := { t.cmp0 with ir := clearThenSet (bit 0 v) (bit 1 v) t.cmp0.ir }
      cmp1 := { t.cmp1 with ir := clearThenSet (bit 2 v) (bit 3 v) t.cmp1.ir } }

/-- The firing of the armed alarm `a` (R319): one-shot, the request set where the channel is still enabled, then the level send. -/
def fireAlarm (a : Alarm) (s : State) : State :=
  sendTimer ((cancelAlarm s).onTimer fun t =>
    t.setChan a.ch { t.chan a.ch with ir := (t.chan a.ch).ir || (t.chan a.ch).en })

/-- The flag TC as a word, `1 << 17` (R151, R368). -/
def flagTc : Word := 1#32 <<< 17

/-- The UART with the flags `m` set, an atomic OR (R40, R95). -/
def orFlags (m : Word) (u : Uart) : Uart := { u with flags := u.flags ||| m }

/-- The UART with the flags `m` cleared, an atomic AND (R40, R95). -/
def clearFlags (m : Word) (u : Uart) : Uart := { u with flags := u.flags &&& ~~~m }

/-- The bytes of an item: `[b]`, or the guest memory bytes at `addr + k` for `k` below `len` (R387; log 11). -/
def itemBytes (guest : Memory) : TxItem → List Byte
  | .byte b => [b]
  | .block len addr => (List.range len.toNat).map fun k => Memory.read guest (addr.toNat + k)

/-- `transmit(item)`, one delivery attempt with the drawn answer (R387). -/
def transmit (item : TxItem) (ans : Answer) (s : State) : State :=
  let s1 := s.emit (.write (itemBytes s.guest item))
  match ans with
  | .accepted => s1.onUart fun u => orFlags flagTc { u with txPend := none, retryArmed := false }
  | .wouldBlock => s1.onUart fun u => { u with txPend := some item, retryArmed := true }

/-- The dispatch of a transmit item: discarded with TC where there is no transport, the busy policy while a retry is armed, else one
delivery attempt (R368, R393). -/
def sendItem (item : TxItem) (ans : Answer) (s : State) : State :=
  if !s.cfg.transportPresent then s.onUart (orFlags flagTc)
  else if s.uart.retryArmed then
    match s.cfg.txBusy with
    | .overwrite => s.onUart fun u => { u with txPend := some item }
    | .drop => s
  else transmit item ans s

/-- The write rule of BLK_LEN (R393). -/
def writeBlkLen (ans : Answer) (v : Word) (s : State) : State :=
  let s1 := s.onUart fun u => { u with blkLen := v }
  if v = 0#32 then s1 else sendItem (.block v s1.uart.blkAddr) ans s1

/-- The receive flush: the ring emptied, RFO and RFU cleared (R342). -/
def flushRx (u : Uart) : Uart := clearFlags ((1#32 <<< 26) ||| (1#32 <<< 27)) { u with rd := u.wr }

/-- The write rule of RXFIFOCON: flush, store, then the resume request (R342). -/
def writeRxfifocon (v : Word) (s : State) : State :=
  let s1 := if bit 0 v then s.onUart flushRx else s
  let s2 := s1.onUart fun u => { u with rxfifocon := v &&& ~~~1#32 }
  if bit 1 v && s.cfg.transportPresent then s2.emit .acceptInput else s2

/-- The side effect of reading RXDATA: the read cursor advances where the ring holds a byte (R369). -/
def advanceRx (s : State) : State :=
  s.onUart fun u => if u.rd ≠ u.wr then { u with rd := u.rd + 1 } else u

/-- The UART after one received byte, appended where there is free capacity (R389). -/
def pushByte (b : Byte) (u : Uart) : Uart := { u with ring := Memory.write u.ring u.wr.val b, wr := u.wr + 1 }

/-- The UART after a burst and the number of bytes dropped: drop-new (R389). -/
def pushBurst : List Byte → Uart → Uart × Nat
  | [], u => (u, 0)
  | b :: rest, u =>
    if ringFree u > 0 then pushBurst rest (pushByte b u)
    else ((pushBurst rest u).1, (pushBurst rest u).2 + 1)

/-- The receive of a burst: one `ReceiveOverflow` where bytes were dropped, then the level send (R389, R391, R403). -/
def receive (bytes : List Byte) (s : State) : State :=
  let r := pushBurst bytes s.uart
  sendUart ((s.onUart fun _ => r.1).report (if r.2 > 0 then [.receiveOverflow r.2] else []))

/-- Router reset (R452). -/
def resetRouter (s : State) : State := s.onRouter fun _ => Router.resetValue

/-- Clock reset; `pllLocked` keeps its value (R453). -/
def resetClock (s : State) : State := s.onClock fun c => Clock.resetValue c.pllLocked

/-- Timer reset (R454). -/
def resetTimer (s : State) : State := setLevel s.cfg.timerSrc false (s.onTimer fun _ => Timer.resetValue s.now)

/-- UART reset (R455). -/
def resetUart (s : State) : State := sendUart (s.onUart fun _ => Uart.resetValue)

/-- The reset of one unit (R450). -/
def resetUnit (u : UnitId) (s : State) : State :=
  match u with
  | .ir => resetRouter s
  | .ccu => resetClock s
  | .stm => resetTimer s
  | .uart => resetUart s

/-- The block's reset: clock, timer, UART, then the router (R451). -/
def resetAll (s : State) : State := resetRouter (resetUart (resetTimer (resetClock s)))

/-- The source is driven by its owner alone (R113, R209). -/
def ownedSource (p : Params) (i : SourceIndex) : Bool :=
  i = p.timerSrc || i = p.uartRxSrc || i = p.uartTxSrc || i = p.uartErrSrc

/-- The state after a restore of the blob `b`: the block replaced, the retry armed where an item is pending, then `evaluate()`. The
trace, the parameters and what lies outside the block are no part of the blob (R473; log 14). -/
def restore (b : Block) (s : State) : State :=
  evaluate { s with
    toBlock := { b with uart := { b.uart with retryArmed := b.uart.retryArmed || b.uart.txPend.isSome } } }

end Sys2Proof.Machine
end

