-- ==== Sys2Proof/Machine/ClockUnit.lean ====
section
/-! DEFINITION. The meanings of the clock unit's register operations (R236 to R245) and of its undeclared offsets (R84), one definition per instruction. -/

namespace Sys2Proof.Machine

/-- Read of `CCU.PLLSTAT` (R236). -/
def execRdCcuPllstat (sz : Size) (lane : Lane) (s : State) : Outcome :=
  readReg .ccu 0x14 sz lane (fun s => pllstatRead s.clock) id s

/-- Write of `CCU.PLLSTAT`: ignored (R237). -/
def execWrCcuPllstat (sz : Size) (lane : Lane) (data : Word) (s : State) : Outcome :=
  writeReg .ccu 0x14 sz lane data (fun s => pllstatRead s.clock) ignoreWrite s

/-- Read of `CCU.PLLCON0`: the stored word (R238). -/
def execRdCcuPllcon0 (sz : Size) (lane : Lane) (s : State) : Outcome :=
  readReg .ccu 0x18 sz lane (fun s => s.clock.pllcon0) id s

/-- Write of `CCU.PLLCON0`: the free-run commands, then the word (R239). -/
def execWrCcuPllcon0 (sz : Size) (lane : Lane) (data : Word) (s : State) : Outcome :=
  writeReg .ccu 0x18 sz lane data (fun s => s.clock.pllcon0) writePllcon0 s

/-- Read of `CCU.PLLCON1`: the stored word (R240). -/
def execRdCcuPllcon1 (sz : Size) (lane : Lane) (s : State) : Outcome :=
  readReg .ccu 0x1C sz lane (fun s => s.clock.pllcon1) id s

/-- Write of `CCU.PLLCON1`: stored; K1 and K2 take effect at once (R241). -/
def execWrCcuPllcon1 (sz : Size) (lane : Lane) (data : Word) (s : State) : Outcome :=
  writeReg .ccu 0x1C sz lane data (fun s => s.clock.pllcon1) (fun v s => s.onClock fun c => { c with pllcon1 := v }) s

/-- Read of `CCU.CCUCON0`: the word with the latch at bit 30 (R242). -/
def execRdCcuCcucon0 (sz : Size) (lane : Lane) (s : State) : Outcome :=
  readReg .ccu 0x30 sz lane (fun s => ccucon0Read s.clock) id s

/-- Write of `CCU.CCUCON0`: commit, or set the latch (R243). -/
def execWrCcuCcucon0 (sz : Size) (lane : Lane) (data : Word) (s : State) : Outcome :=
  writeReg .ccu 0x30 sz lane data (fun s => ccucon0Read s.clock) writeCcucon0 s

/-- Read of `CCU.CCUCON1`: the written word (R244). -/
def execRdCcuCcucon1 (sz : Size) (lane : Lane) (s : State) : Outcome :=
  readReg .ccu 0x34 sz lane (fun s => s.clock.ccucon1) id s

/-- Write of `CCU.CCUCON1`: stored; the dividers wait for the commit (R245). -/
def execWrCcuCcucon1 (sz : Size) (lane : Lane) (data : Word) (s : State) : Outcome :=
  writeReg .ccu 0x34 sz lane data (fun s => s.clock.ccucon1)
    (fun v s => s.onClock fun c => { c with ccucon1 := v, updPending := true }) s

/-- Read of an undeclared clock unit offset (R84). -/
def execRdCcuUndeclared (sz : Size) (off : Offset) (s : State) : Outcome := readUndeclared .ccu sz off s

/-- Write of an undeclared clock unit offset (R84). -/
def execWrCcuUndeclared (sz : Size) (off : Offset) (_data : Word) (s : State) : Outcome := writeUndeclared .ccu sz off s

end Sys2Proof.Machine
end

