-- ==== Sys2Proof/Machine/Events.lean ====
section
/-! DEFINITION. The meanings of the environment events (R112), one definition per instruction. -/

namespace Sys2Proof.Machine

/-- RESET(U) (R450). -/
def execEvReset (u : UnitId) (s : State) : Outcome := .next ((resetUnit u s).returning .nothing)

/-- RESET_ALL (R451). -/
def execEvResetAll (s : State) : Outcome := .next ((resetAll s).returning .nothing)

/-- TIME: the virtual clock advances; a reached deadline does not fire by itself (R470). -/
def execEvTime (delta : Nat) (s : State) : Outcome := .next (State.returning .nothing { s with now := s.now + delta })

/-- ALARM: taken once an alarm is armed and due (R319). -/
def execEvAlarm (s : State) : Outcome :=
  match s.timer.alarm with
  | none => .refused .alarmNotArmed
  | some a => if a.deadline ≤ s.now then .next ((fireAlarm a s).returning .nothing) else .refused .alarmNotDue

/-- RX: the transport pushes a burst, whatever ENI holds (R389). -/
def execEvRx (bytes : List Byte) (s : State) : Outcome :=
  if s.cfg.transportPresent then .next ((receive bytes s).returning .nothing) else .refused .noTransport

/-- WRITABLE: the callback is consumed and the pending item is offered again (R388). -/
def execEvWritable (ans : Answer) (s : State) : Outcome :=
  if s.cfg.transportPresent then
    match s.uart.retryArmed, s.uart.txPend with
    | true, some item =>
      .next ((sendUart (transmit item ans (s.onUart fun u => { u with retryArmed := false }))).returning .nothing)
    | _, _ => .refused .noRetryPending
  else .refused .noTransport

/-- LOCK: the PLL lock input (R246). -/
def execEvLock (l : Bool) (s : State) : Outcome := .next ((s.onClock fun c => { c with pllLocked := l }).returning .nothing)

/-- LEVEL: a peripheral outside the block sends the level of its source (R208); refused on an owned source (R113). -/
def execEvLevel (i : SourceIndex) (l : Bool) (s : State) : Outcome :=
  if ownedSource s.cfg i then .refused .ownedSource else .next ((setLevel i l s).returning .nothing)

/-- SNAPSHOT: returns the whole architectural state and changes none of it (R472). -/
def execEvSnapshot (s : State) : Outcome := .next (s.returning (.blob s.toBlock))

/-- RESTORE: the whole architectural state is replaced by a snapshot (R473). -/
def execEvRestore (blob : Block) (s : State) : Outcome :=
  if blob.snapshotForm s.cfg then .next ((restore blob s).returning .nothing) else .refused .notASnapshot

end Sys2Proof.Machine
end

