-- ==== Sys2Proof/Machine/RouterUnit.lean ====
section
/-! DEFINITION. The meanings of the router's register operations (R205 to R207), one definition per instruction. -/

namespace Sys2Proof.Machine

/-- Read of `IR.SRC[i]` (R205). -/
def execRdIrSrc (i : SourceIndex) (sz : Size) (lane : Lane) (s : State) : Outcome :=
  readReg .ir (4 * i.val) sz lane (fun s => srcRead (s.router.source i)) id s

/-- Write of `IR.SRC[i]`, `configureSource`, ended by `evaluate()` (R206, R88 (c)). -/
def execWrIrSrc (i : SourceIndex) (sz : Size) (lane : Lane) (data : Word) (s : State) : Outcome :=
  writeReg .ir (4 * i.val) sz lane data (fun s => srcRead (s.router.source i))
    (fun v s => evaluate (s.onRouter fun r => r.setSource i (configureSource v (r.source i)))) s

/-- Read of an undeclared router offset: only a window larger than 0x400 bytes has one (R207, R84; log 6). -/
def execRdIrUndeclared (sz : Size) (off : Offset) (s : State) : Outcome := readUndeclared .ir sz off s

/-- Write of an undeclared router offset: only a window larger than 0x400 bytes has one (R207, R84; log 6). -/
def execWrIrUndeclared (sz : Size) (off : Offset) (_data : Word) (s : State) : Outcome := writeUndeclared .ir sz off s

end Sys2Proof.Machine
end

