-- ==== Sys2Proof/Machine/TimerUnit.lean ====
section
/-! DEFINITION. The meanings of the timer's register operations (R271 to R316) and of its undeclared offsets (R84), one definition per instruction. Every write ends with the level send of R320, through `afterAccess`. -/

namespace Sys2Proof.Machine

/-- Read of `STM.CLC`: the stored word (R271). -/
def execRdStmClc (sz : Size) (lane : Lane) (s : State) : Outcome :=
  readReg .stm 0x00 sz lane (fun s => s.timer.clc) id s

/-- Write of `STM.CLC`: stored; no other effect (R272). -/
def execWrStmClc (sz : Size) (lane : Lane) (data : Word) (s : State) : Outcome :=
  writeReg .stm 0x00 sz lane data (fun s => s.timer.clc) (fun v s => s.onTimer fun t => { t with clc := v }) s

/-- Read of `STM.ID`: the parameter (R273). -/
def execRdStmId (sz : Size) (lane : Lane) (s : State) : Outcome :=
  readReg .stm 0x08 sz lane (fun s => s.cfg.stmId) id s

/-- Write of `STM.ID`: ignored (R274). -/
def execWrStmId (sz : Size) (lane : Lane) (data : Word) (s : State) : Outcome :=
  writeReg .stm 0x08 sz lane data (fun s => s.cfg.stmId) ignoreWrite s

/-- Read of `STM.TIM0`, the shift-0 tap; the upper half of the instant goes to CAP (R275). -/
def execRdStmTim0 (sz : Size) (lane : Lane) (s : State) : Outcome :=
  readReg .stm 0x10 sz lane (fun s => tap s 0) captureCap s

/-- Write of `STM.TIM0`: ignored (R276). -/
def execWrStmTim0 (sz : Size) (lane : Lane) (data : Word) (s : State) : Outcome :=
  writeReg .stm 0x10 sz lane data (fun s => tap s 0) ignoreWrite s

/-- Read of `STM.TIM1`, the shift-4 tap; the upper half of the instant goes to CAP (R277). -/
def execRdStmTim1 (sz : Size) (lane : Lane) (s : State) : Outcome :=
  readReg .stm 0x14 sz lane (fun s => tap s 4) captureCap s

/-- Write of `STM.TIM1`: ignored (R278). -/
def execWrStmTim1 (sz : Size) (lane : Lane) (data : Word) (s : State) : Outcome :=
  writeReg .stm 0x14 sz lane data (fun s => tap s 4) ignoreWrite s

/-- Read of `STM.TIM2`, the shift-8 tap; the upper half of the instant goes to CAP (R279). -/
def execRdStmTim2 (sz : Size) (lane : Lane) (s : State) : Outcome :=
  readReg .stm 0x18 sz lane (fun s => tap s 8) captureCap s

/-- Write of `STM.TIM2`: ignored (R280). -/
def execWrStmTim2 (sz : Size) (lane : Lane) (data : Word) (s : State) : Outcome :=
  writeReg .stm 0x18 sz lane data (fun s => tap s 8) ignoreWrite s

/-- Read of `STM.TIM3`, the shift-12 tap; the upper half of the instant goes to CAP (R281). -/
def execRdStmTim3 (sz : Size) (lane : Lane) (s : State) : Outcome :=
  readReg .stm 0x1C sz lane (fun s => tap s 12) captureCap s

/-- Write of `STM.TIM3`: ignored (R282). -/
def execWrStmTim3 (sz : Size) (lane : Lane) (data : Word) (s : State) : Outcome :=
  writeReg .stm 0x1C sz lane data (fun s => tap s 12) ignoreWrite s

/-- Read of `STM.TIM4`, the shift-16 tap; the upper half of the instant goes to CAP (R283). -/
def execRdStmTim4 (sz : Size) (lane : Lane) (s : State) : Outcome :=
  readReg .stm 0x20 sz lane (fun s => tap s 16) captureCap s

/-- Write of `STM.TIM4`: ignored (R284). -/
def execWrStmTim4 (sz : Size) (lane : Lane) (data : Word) (s : State) : Outcome :=
  writeReg .stm 0x20 sz lane data (fun s => tap s 16) ignoreWrite s

/-- Read of `STM.TIM5`, the shift-20 tap; the upper half of the instant goes to CAP (R285). -/
def execRdStmTim5 (sz : Size) (lane : Lane) (s : State) : Outcome :=
  readReg .stm 0x24 sz lane (fun s => tap s 20) captureCap s

/-- Write of `STM.TIM5`: ignored (R286). -/
def execWrStmTim5 (sz : Size) (lane : Lane) (data : Word) (s : State) : Outcome :=
  writeReg .stm 0x24 sz lane data (fun s => tap s 20) ignoreWrite s

/-- Read of `STM.TIM6`, the shift-32 tap; nothing is captured (R287). -/
def execRdStmTim6 (sz : Size) (lane : Lane) (s : State) : Outcome :=
  readReg .stm 0x28 sz lane (fun s => tap s 32) reportTap s

/-- Write of `STM.TIM6`: ignored (R288). -/
def execWrStmTim6 (sz : Size) (lane : Lane) (data : Word) (s : State) : Outcome :=
  writeReg .stm 0x28 sz lane data (fun s => tap s 32) ignoreWrite s

/-- Read of `STM.CAP`: the captured word (R289). -/
def execRdStmCap (sz : Size) (lane : Lane) (s : State) : Outcome :=
  readReg .stm 0x2C sz lane (fun s => s.timer.cap) id s

/-- Write of `STM.CAP`: ignored (R290). -/
def execWrStmCap (sz : Size) (lane : Lane) (data : Word) (s : State) : Outcome :=
  writeReg .stm 0x2C sz lane data (fun s => s.timer.cap) ignoreWrite s

/-- Read of `STM.CMP0`: the compare value (R291). -/
def execRdStmCmp0 (sz : Size) (lane : Lane) (s : State) : Outcome :=
  readReg .stm 0x30 sz lane (fun s => s.timer.cmp0.word) id s

/-- Write of `STM.CMP0`: the compare value, then `arm(0)` (R292). -/
def execWrStmCmp0 (sz : Size) (lane : Lane) (data : Word) (s : State) : Outcome :=
  writeReg .stm 0x30 sz lane data (fun s => s.timer.cmp0.word) (writeCompare .ch0) s

/-- Read of `STM.CMP1`: the compare value (R293). -/
def execRdStmCmp1 (sz : Size) (lane : Lane) (s : State) : Outcome :=
  readReg .stm 0x34 sz lane (fun s => s.timer.cmp1.word) id s

/-- Write of `STM.CMP1`: the compare value, then `arm(1)` (R294). -/
def execWrStmCmp1 (sz : Size) (lane : Lane) (data : Word) (s : State) : Outcome :=
  writeReg .stm 0x34 sz lane data (fun s => s.timer.cmp1.word) (writeCompare .ch1) s

/-- Read of `STM.CMCON`: the stored word (R295). -/
def execRdStmCmcon (sz : Size) (lane : Lane) (s : State) : Outcome :=
  readReg .stm 0x38 sz lane (fun s => s.timer.cmcon) id s

/-- Write of `STM.CMCON`: stored; no other effect (R296). -/
def execWrStmCmcon (sz : Size) (lane : Lane) (data : Word) (s : State) : Outcome :=
  writeReg .stm 0x38 sz lane data (fun s => s.timer.cmcon) (fun v s => s.onTimer fun t => { t with cmcon := v }) s

/-- Read of `STM.ICR` (R297). -/
def execRdStmIcr (sz : Size) (lane : Lane) (s : State) : Outcome :=
  readReg .stm 0x3C sz lane (fun s => icrRead s.timer) id s

/-- Write of `STM.ICR`: enables and output selects; cancel, then arm the lowest enabled channel (R298). -/
def execWrStmIcr (sz : Size) (lane : Lane) (data : Word) (s : State) : Outcome :=
  writeReg .stm 0x3C sz lane data (fun s => icrRead s.timer) writeIcr s

/-- Read of `STM.ISCR`: 0 (R299). -/
def execRdStmIscr (sz : Size) (lane : Lane) (s : State) : Outcome :=
  readReg .stm 0x40 sz lane (fun _ => 0#32) id s

/-- Write of `STM.ISCR`: clear, then set, each request (R300). -/
def execWrStmIscr (sz : Size) (lane : Lane) (data : Word) (s : State) : Outcome :=
  writeReg .stm 0x40 sz lane data (fun _ => 0#32) writeIscr s

/-- Read of `STM.TIM0SV`, the shift-0 tap; the upper half of the instant goes to CAPSV (R301). -/
def execRdStmTim0sv (sz : Size) (lane : Lane) (s : State) : Outcome :=
  readReg .stm 0x50 sz lane (fun s => tap s 0) captureCapsv s

/-- Write of `STM.TIM0SV`: ignored (R302). -/
def execWrStmTim0sv (sz : Size) (lane : Lane) (data : Word) (s : State) : Outcome :=
  writeReg .stm 0x50 sz lane data (fun s => tap s 0) ignoreWrite s

/-- Read of `STM.CAPSV`: the captured word (R303). -/
def execRdStmCapsv (sz : Size) (lane : Lane) (s : State) : Outcome :=
  readReg .stm 0x54 sz lane (fun s => s.timer.capsv) id s

/-- Write of `STM.CAPSV`: ignored (R304). -/
def execWrStmCapsv (sz : Size) (lane : Lane) (data : Word) (s : State) : Outcome :=
  writeReg .stm 0x54 sz lane data (fun s => s.timer.capsv) ignoreWrite s

/-- Read of `STM.OCS`: the stored word (R305). -/
def execRdStmOcs (sz : Size) (lane : Lane) (s : State) : Outcome :=
  readReg .stm 0xE8 sz lane (fun s => s.timer.ocs) id s

/-- Write of `STM.OCS`: stored; no other effect (R306). -/
def execWrStmOcs (sz : Size) (lane : Lane) (data : Word) (s : State) : Outcome :=
  writeReg .stm 0xE8 sz lane data (fun s => s.timer.ocs) (fun v s => s.onTimer fun t => { t with ocs := v }) s

/-- Read of `STM.KRSTCLR`: the stored word (R307). -/
def execRdStmKrstclr (sz : Size) (lane : Lane) (s : State) : Outcome :=
  readReg .stm 0xEC sz lane (fun s => s.timer.krstclr) id s

/-- Write of `STM.KRSTCLR`: stored; no other effect (R308). -/
def execWrStmKrstclr (sz : Size) (lane : Lane) (data : Word) (s : State) : Outcome :=
  writeReg .stm 0xEC sz lane data (fun s => s.timer.krstclr) (fun v s => s.onTimer fun t => { t with krstclr := v }) s

/-- Read of `STM.KRST1`: the stored word (R309). -/
def execRdStmKrst1 (sz : Size) (lane : Lane) (s : State) : Outcome :=
  readReg .stm 0xF0 sz lane (fun s => s.timer.krst1) id s

/-- Write of `STM.KRST1`: stored; no other effect (R310). -/
def execWrStmKrst1 (sz : Size) (lane : Lane) (data : Word) (s : State) : Outcome :=
  writeReg .stm 0xF0 sz lane data (fun s => s.timer.krst1) (fun v s => s.onTimer fun t => { t with krst1 := v }) s

/-- Read of `STM.KRST0`: the stored word (R311). -/
def execRdStmKrst0 (sz : Size) (lane : Lane) (s : State) : Outcome :=
  readReg .stm 0xF4 sz lane (fun s => s.timer.krst0) id s

/-- Write of `STM.KRST0`: stored; no other effect (R312). -/
def execWrStmKrst0 (sz : Size) (lane : Lane) (data : Word) (s : State) : Outcome :=
  writeReg .stm 0xF4 sz lane data (fun s => s.timer.krst0) (fun v s => s.onTimer fun t => { t with krst0 := v }) s

/-- Read of `STM.ACCEN1`: the stored word (R313). -/
def execRdStmAccen1 (sz : Size) (lane : Lane) (s : State) : Outcome :=
  readReg .stm 0xF8 sz lane (fun s => s.timer.accen1) id s

/-- Write of `STM.ACCEN1`: stored; no other effect (R314). -/
def execWrStmAccen1 (sz : Size) (lane : Lane) (data : Word) (s : State) : Outcome :=
  writeReg .stm 0xF8 sz lane data (fun s => s.timer.accen1) (fun v s => s.onTimer fun t => { t with accen1 := v }) s

/-- Read of `STM.ACCEN0`: the stored word (R315). -/
def execRdStmAccen0 (sz : Size) (lane : Lane) (s : State) : Outcome :=
  readReg .stm 0xFC sz lane (fun s => s.timer.accen0) id s

/-- Write of `STM.ACCEN0`: stored; no other effect (R316). -/
def execWrStmAccen0 (sz : Size) (lane : Lane) (data : Word) (s : State) : Outcome :=
  writeReg .stm 0xFC sz lane data (fun s => s.timer.accen0) (fun v s => s.onTimer fun t => { t with accen0 := v }) s

/-- Read of an undeclared timer offset (R84). -/
def execRdStmUndeclared (sz : Size) (off : Offset) (s : State) : Outcome := readUndeclared .stm sz off s

/-- Write of an undeclared timer offset (R84; a write sends the level, R88 (b)). -/
def execWrStmUndeclared (sz : Size) (off : Offset) (_data : Word) (s : State) : Outcome := writeUndeclared .stm sz off s

end Sys2Proof.Machine
end

