-- ==== Sys2Proof/Machine/UartUnit.lean ====
section
/-! DEFINITION. The meanings of the UART's register operations (R333 to R386), of its undeclared offsets (R84) and of the block-transfer pair (R392, R393), one definition per instruction. Every access ends with the level send of R391, through `afterAccess`. -/

namespace Sys2Proof.Machine

/-- Read of `UART.CLC`: the stored word (R333). -/
def execRdUartClc (sz : Size) (lane : Lane) (s : State) : Outcome :=
  readReg .uart 0x00 sz lane (fun s => s.uart.clc) id s

/-- Write of `UART.CLC`: stored; no other effect (R334). -/
def execWrUartClc (sz : Size) (lane : Lane) (data : Word) (s : State) : Outcome :=
  writeReg .uart 0x00 sz lane data (fun s => s.uart.clc) (fun v s => s.onUart fun u => { u with clc := v }) s

/-- Read of `UART.IOCR`: the stored word (R335). -/
def execRdUartIocr (sz : Size) (lane : Lane) (s : State) : Outcome :=
  readReg .uart 0x04 sz lane (fun s => s.uart.iocr) id s

/-- Write of `UART.IOCR`: stored; no other effect (R336). -/
def execWrUartIocr (sz : Size) (lane : Lane) (data : Word) (s : State) : Outcome :=
  writeReg .uart 0x04 sz lane data (fun s => s.uart.iocr) (fun v s => s.onUart fun u => { u with iocr := v }) s

/-- Read of `UART.ID`: the parameter (R337). -/
def execRdUartId (sz : Size) (lane : Lane) (s : State) : Outcome :=
  readReg .uart 0x08 sz lane (fun s => s.cfg.uartId) id s

/-- Write of `UART.ID`: ignored (R338). -/
def execWrUartId (sz : Size) (lane : Lane) (data : Word) (s : State) : Outcome :=
  writeReg .uart 0x08 sz lane data (fun s => s.cfg.uartId) ignoreWrite s

/-- Read of `UART.TXFIFOCON`: the stored word (R339). -/
def execRdUartTxfifocon (sz : Size) (lane : Lane) (s : State) : Outcome :=
  readReg .uart 0x0C sz lane (fun s => s.uart.txfifocon) id s

/-- Write of `UART.TXFIFOCON`: stored but for FLUSH, which has no effect (R340). -/
def execWrUartTxfifocon (sz : Size) (lane : Lane) (data : Word) (s : State) : Outcome :=
  writeReg .uart 0x0C sz lane data (fun s => s.uart.txfifocon)
    (fun v s => s.onUart fun u => { u with txfifocon := v &&& ~~~1#32 }) s

/-- Read of `UART.RXFIFOCON`: the stored word (R341). -/
def execRdUartRxfifocon (sz : Size) (lane : Lane) (s : State) : Outcome :=
  readReg .uart 0x10 sz lane (fun s => s.uart.rxfifocon) id s

/-- Write of `UART.RXFIFOCON`: flush, store, request to resume (R342). -/
def execWrUartRxfifocon (sz : Size) (lane : Lane) (data : Word) (s : State) : Outcome :=
  writeReg .uart 0x10 sz lane data (fun s => s.uart.rxfifocon) writeRxfifocon s

/-- Read of `UART.BITCON`: the stored word (R343). -/
def execRdUartBitcon (sz : Size) (lane : Lane) (s : State) : Outcome :=
  readReg .uart 0x14 sz lane (fun s => s.uart.bitcon) id s

/-- Write of `UART.BITCON`: stored; no other effect (R344). -/
def execWrUartBitcon (sz : Size) (lane : Lane) (data : Word) (s : State) : Outcome :=
  writeReg .uart 0x14 sz lane data (fun s => s.uart.bitcon) (fun v s => s.onUart fun u => { u with bitcon := v }) s

/-- Read of `UART.FRAMECON`: the stored word (R345). -/
def execRdUartFramecon (sz : Size) (lane : Lane) (s : State) : Outcome :=
  readReg .uart 0x18 sz lane (fun s => s.uart.framecon) id s

/-- Write of `UART.FRAMECON`: stored; no other effect (R346). -/
def execWrUartFramecon (sz : Size) (lane : Lane) (data : Word) (s : State) : Outcome :=
  writeReg .uart 0x18 sz lane data (fun s => s.uart.framecon) (fun v s => s.onUart fun u => { u with framecon := v }) s

/-- Read of `UART.DATCON`: the stored word (R347). -/
def execRdUartDatcon (sz : Size) (lane : Lane) (s : State) : Outcome :=
  readReg .uart 0x1C sz lane (fun s => s.uart.datcon) id s

/-- Write of `UART.DATCON`: stored; no other effect (R348). -/
def execWrUartDatcon (sz : Size) (lane : Lane) (data : Word) (s : State) : Outcome :=
  writeReg .uart 0x1C sz lane data (fun s => s.uart.datcon) (fun v s => s.onUart fun u => { u with datcon := v }) s

/-- Read of `UART.BRG`: the stored word (R349). -/
def execRdUartBrg (sz : Size) (lane : Lane) (s : State) : Outcome :=
  readReg .uart 0x20 sz lane (fun s => s.uart.brg) id s

/-- Write of `UART.BRG`: stored; no other effect (R350). -/
def execWrUartBrg (sz : Size) (lane : Lane) (data : Word) (s : State) : Outcome :=
  writeReg .uart 0x20 sz lane data (fun s => s.uart.brg) (fun v s => s.onUart fun u => { u with brg := v }) s

/-- Read of `UART.BRD`: the stored word (R351). -/
def execRdUartBrd (sz : Size) (lane : Lane) (s : State) : Outcome :=
  readReg .uart 0x24 sz lane (fun s => s.uart.brd) id s

/-- Write of `UART.BRD`: stored; no other effect (R352). -/
def execWrUartBrd (sz : Size) (lane : Lane) (data : Word) (s : State) : Outcome :=
  writeReg .uart 0x24 sz lane data (fun s => s.uart.brd) (fun v s => s.onUart fun u => { u with brd := v }) s

/-- Read of `UART.LINCON`: the stored word (R353). -/
def execRdUartLincon (sz : Size) (lane : Lane) (s : State) : Outcome :=
  readReg .uart 0x28 sz lane (fun s => s.uart.lincon) id s

/-- Write of `UART.LINCON`: stored; no other effect (R354). -/
def execWrUartLincon (sz : Size) (lane : Lane) (data : Word) (s : State) : Outcome :=
  writeReg .uart 0x28 sz lane data (fun s => s.uart.lincon) (fun v s => s.onUart fun u => { u with lincon := v }) s

/-- Read of `UART.LINBTIMER`: the stored word (R355). -/
def execRdUartLinbtimer (sz : Size) (lane : Lane) (s : State) : Outcome :=
  readReg .uart 0x2C sz lane (fun s => s.uart.linbtimer) id s

/-- Write of `UART.LINBTIMER`: stored; no other effect (R356). -/
def execWrUartLinbtimer (sz : Size) (lane : Lane) (data : Word) (s : State) : Outcome :=
  writeReg .uart 0x2C sz lane data (fun s => s.uart.linbtimer) (fun v s => s.onUart fun u => { u with linbtimer := v }) s

/-- Read of `UART.LINHTIMER`: the stored word (R357). -/
def execRdUartLinhtimer (sz : Size) (lane : Lane) (s : State) : Outcome :=
  readReg .uart 0x30 sz lane (fun s => s.uart.linhtimer) id s

/-- Write of `UART.LINHTIMER`: stored; no other effect (R358). -/
def execWrUartLinhtimer (sz : Size) (lane : Lane) (data : Word) (s : State) : Outcome :=
  writeReg .uart 0x30 sz lane data (fun s => s.uart.linhtimer) (fun v s => s.onUart fun u => { u with linhtimer := v }) s

/-- Read of `UART.FLAGS` (R359). -/
def execRdUartFlags (sz : Size) (lane : Lane) (s : State) : Outcome :=
  readReg .uart 0x34 sz lane (fun s => flagsRead s.uart) id s

/-- Write of `UART.FLAGS`: ignored (R360). -/
def execWrUartFlags (sz : Size) (lane : Lane) (data : Word) (s : State) : Outcome :=
  writeReg .uart 0x34 sz lane data (fun s => flagsRead s.uart) ignoreWrite s

/-- Read of `UART.FLAGSSET`: 0 (R361). -/
def execRdUartFlagsset (sz : Size) (lane : Lane) (s : State) : Outcome :=
  readReg .uart 0x38 sz lane (fun _ => 0#32) id s

/-- Write of `UART.FLAGSSET`: an atomic OR of the stored flags (R362). -/
def execWrUartFlagsset (sz : Size) (lane : Lane) (data : Word) (s : State) : Outcome :=
  writeReg .uart 0x38 sz lane data (fun _ => 0#32) (fun v s => s.onUart (orFlags (v &&& flagsStored))) s

/-- Read of `UART.FLAGSCLEAR`: 0 (R363). -/
def execRdUartFlagsclear (sz : Size) (lane : Lane) (s : State) : Outcome :=
  readReg .uart 0x3C sz lane (fun _ => 0#32) id s

/-- Write of `UART.FLAGSCLEAR`: an atomic AND of the stored flags (R364). -/
def execWrUartFlagsclear (sz : Size) (lane : Lane) (data : Word) (s : State) : Outcome :=
  writeReg .uart 0x3C sz lane data (fun _ => 0#32) (fun v s => s.onUart (clearFlags (v &&& flagsStored))) s

/-- Read of `UART.FLAGSENABLE`: the stored word (R365). -/
def execRdUartFlagsenable (sz : Size) (lane : Lane) (s : State) : Outcome :=
  readReg .uart 0x40 sz lane (fun s => s.uart.flagsenable) id s

/-- Write of `UART.FLAGSENABLE`: stored; all 32 bits, the interrupt mask (R366). -/
def execWrUartFlagsenable (sz : Size) (lane : Lane) (data : Word) (s : State) : Outcome :=
  writeReg .uart 0x40 sz lane data (fun s => s.uart.flagsenable) (fun v s => s.onUart fun u => { u with flagsenable := v }) s

/-- Read of `UART.TXDATA`: 0 (R367). -/
def execRdUartTxdata (sz : Size) (lane : Lane) (s : State) : Outcome :=
  readReg .uart 0x44 sz lane (fun _ => 0#32) id s

/-- Write of `UART.TXDATA`: the byte is discarded, replaces the pending one, or is handed to the transport (R368). -/
def execWrUartTxdata (sz : Size) (lane : Lane) (data : Word) (ans : Answer) (s : State) : Outcome :=
  writeReg .uart 0x44 sz lane data (fun _ => 0#32) (fun v s => sendItem (.byte (v.extractLsb' 0 8)) ans s) s

/-- Read of `UART.RXDATA`: the byte at the read cursor, which advances where the ring holds a byte (R369). -/
def execRdUartRxdata (sz : Size) (lane : Lane) (s : State) : Outcome :=
  readReg .uart 0x48 sz lane (fun s => rxdataRead s.uart) advanceRx s

/-- Write of `UART.RXDATA`: ignored (R370). -/
def execWrUartRxdata (sz : Size) (lane : Lane) (data : Word) (s : State) : Outcome :=
  writeReg .uart 0x48 sz lane data (fun s => rxdataRead s.uart) ignoreWrite s

/-- Read of `UART.CSR`: the stored word (R371). -/
def execRdUartCsr (sz : Size) (lane : Lane) (s : State) : Outcome :=
  readReg .uart 0x4C sz lane (fun s => s.uart.csr) id s

/-- Write of `UART.CSR`: stored; no other effect (R372). -/
def execWrUartCsr (sz : Size) (lane : Lane) (data : Word) (s : State) : Outcome :=
  writeReg .uart 0x4C sz lane data (fun s => s.uart.csr) (fun v s => s.onUart fun u => { u with csr := v }) s

/-- Read of `UART.RXDATAD`: the same byte, without advancing (R373). -/
def execRdUartRxdatad (sz : Size) (lane : Lane) (s : State) : Outcome :=
  readReg .uart 0x50 sz lane (fun s => rxdataRead s.uart) id s

/-- Write of `UART.RXDATAD`: ignored (R374). -/
def execWrUartRxdatad (sz : Size) (lane : Lane) (data : Word) (s : State) : Outcome :=
  writeReg .uart 0x50 sz lane data (fun s => rxdataRead s.uart) ignoreWrite s

/-- Read of `UART.OCS`: the stored word (R375). -/
def execRdUartOcs (sz : Size) (lane : Lane) (s : State) : Outcome :=
  readReg .uart 0xE8 sz lane (fun s => s.uart.ocs) id s

/-- Write of `UART.OCS`: stored; no other effect (R376). -/
def execWrUartOcs (sz : Size) (lane : Lane) (data : Word) (s : State) : Outcome :=
  writeReg .uart 0xE8 sz lane data (fun s => s.uart.ocs) (fun v s => s.onUart fun u => { u with ocs := v }) s

/-- Read of `UART.KRSTCLR`: the stored word (R377). -/
def execRdUartKrstclr (sz : Size) (lane : Lane) (s : State) : Outcome :=
  readReg .uart 0xEC sz lane (fun s => s.uart.krstclr) id s

/-- Write of `UART.KRSTCLR`: stored; no other effect (R378). -/
def execWrUartKrstclr (sz : Size) (lane : Lane) (data : Word) (s : State) : Outcome :=
  writeReg .uart 0xEC sz lane data (fun s => s.uart.krstclr) (fun v s => s.onUart fun u => { u with krstclr := v }) s

/-- Read of `UART.KRST1`: the stored word (R379). -/
def execRdUartKrst1 (sz : Size) (lane : Lane) (s : State) : Outcome :=
  readReg .uart 0xF0 sz lane (fun s => s.uart.krst1) id s

/-- Write of `UART.KRST1`: stored; no other effect (R380). -/
def execWrUartKrst1 (sz : Size) (lane : Lane) (data : Word) (s : State) : Outcome :=
  writeReg .uart 0xF0 sz lane data (fun s => s.uart.krst1) (fun v s => s.onUart fun u => { u with krst1 := v }) s

/-- Read of `UART.KRST0`: the stored word (R381). -/
def execRdUartKrst0 (sz : Size) (lane : Lane) (s : State) : Outcome :=
  readReg .uart 0xF4 sz lane (fun s => s.uart.krst0) id s

/-- Write of `UART.KRST0`: stored; no other effect (R382). -/
def execWrUartKrst0 (sz : Size) (lane : Lane) (data : Word) (s : State) : Outcome :=
  writeReg .uart 0xF4 sz lane data (fun s => s.uart.krst0) (fun v s => s.onUart fun u => { u with krst0 := v }) s

/-- Read of `UART.ACCEN1`: the stored word (R383). -/
def execRdUartAccen1 (sz : Size) (lane : Lane) (s : State) : Outcome :=
  readReg .uart 0xF8 sz lane (fun s => s.uart.accen1) id s

/-- Write of `UART.ACCEN1`: stored; no other effect (R384). -/
def execWrUartAccen1 (sz : Size) (lane : Lane) (data : Word) (s : State) : Outcome :=
  writeReg .uart 0xF8 sz lane data (fun s => s.uart.accen1) (fun v s => s.onUart fun u => { u with accen1 := v }) s

/-- Read of `UART.ACCEN0`: the stored word (R385). -/
def execRdUartAccen0 (sz : Size) (lane : Lane) (s : State) : Outcome :=
  readReg .uart 0xFC sz lane (fun s => s.uart.accen0) id s

/-- Write of `UART.ACCEN0`: stored; no other effect (R386). -/
def execWrUartAccen0 (sz : Size) (lane : Lane) (data : Word) (s : State) : Outcome :=
  writeReg .uart 0xFC sz lane data (fun s => s.uart.accen0) (fun v s => s.onUart fun u => { u with accen0 := v }) s

/-- Read of an undeclared UART offset (R84), or of the block-transfer pair where the platform has it (R392, R393). -/
def execRdUartUndeclared (sz : Size) (off : Offset) (s : State) : Outcome :=
  match blkRegAt s.cfg off with
  | some .addr => readReg .uart (wordOffset off) sz (laneOf off) (fun s => s.uart.blkAddr) id s
  | some .len => readReg .uart (wordOffset off) sz (laneOf off) (fun s => s.uart.blkLen) id s
  | none => readUndeclared .uart sz off s

/-- Write of an undeclared UART offset (R84), or of the block-transfer pair where the platform has it (R392, R393). -/
def execWrUartUndeclared (sz : Size) (off : Offset) (data : Word) (ans : Answer) (s : State) : Outcome :=
  match blkRegAt s.cfg off with
  | some .addr =>
    writeReg .uart (wordOffset off) sz (laneOf off) data (fun s => s.uart.blkAddr)
      (fun v s => s.onUart fun u => { u with blkAddr := v }) s
  | some .len => writeReg .uart (wordOffset off) sz (laneOf off) data (fun s => s.uart.blkLen) (writeBlkLen ans) s
  | none => writeUndeclared .uart sz off s

end Sys2Proof.Machine
end

