-- ==== Sys2Proof/Machine/Dispatch.lean ====
section
/-! DEFINITION. One arm per operation of the opcode table, each one direct call of its meaning. -/

namespace Sys2Proof.Machine

def exec (i : Instr) (s : State) : Host.Outcome State Fault Refusal :=
  match i with
  | .rdIrSrc idx sz lane => Sys2Proof.Machine.execRdIrSrc idx sz lane s
  | .wrIrSrc idx sz lane data => Sys2Proof.Machine.execWrIrSrc idx sz lane data s
  | .rdCcuPllstat sz lane => Sys2Proof.Machine.execRdCcuPllstat sz lane s
  | .wrCcuPllstat sz lane data => Sys2Proof.Machine.execWrCcuPllstat sz lane data s
  | .rdCcuPllcon0 sz lane => Sys2Proof.Machine.execRdCcuPllcon0 sz lane s
  | .wrCcuPllcon0 sz lane data => Sys2Proof.Machine.execWrCcuPllcon0 sz lane data s
  | .rdCcuPllcon1 sz lane => Sys2Proof.Machine.execRdCcuPllcon1 sz lane s
  | .wrCcuPllcon1 sz lane data => Sys2Proof.Machine.execWrCcuPllcon1 sz lane data s
  | .rdCcuCcucon0 sz lane => Sys2Proof.Machine.execRdCcuCcucon0 sz lane s
  | .wrCcuCcucon0 sz lane data => Sys2Proof.Machine.execWrCcuCcucon0 sz lane data s
  | .rdCcuCcucon1 sz lane => Sys2Proof.Machine.execRdCcuCcucon1 sz lane s
  | .wrCcuCcucon1 sz lane data => Sys2Proof.Machine.execWrCcuCcucon1 sz lane data s
  | .rdStmClc sz lane => Sys2Proof.Machine.execRdStmClc sz lane s
  | .wrStmClc sz lane data => Sys2Proof.Machine.execWrStmClc sz lane data s
  | .rdStmId sz lane => Sys2Proof.Machine.execRdStmId sz lane s
  | .wrStmId sz lane data => Sys2Proof.Machine.execWrStmId sz lane data s
  | .rdStmTim0 sz lane => Sys2Proof.Machine.execRdStmTim0 sz lane s
  | .wrStmTim0 sz lane data => Sys2Proof.Machine.execWrStmTim0 sz lane data s
  | .rdStmTim1 sz lane => Sys2Proof.Machine.execRdStmTim1 sz lane s
  | .wrStmTim1 sz lane data => Sys2Proof.Machine.execWrStmTim1 sz lane data s
  | .rdStmTim2 sz lane => Sys2Proof.Machine.execRdStmTim2 sz lane s
  | .wrStmTim2 sz lane data => Sys2Proof.Machine.execWrStmTim2 sz lane data s
  | .rdStmTim3 sz lane => Sys2Proof.Machine.execRdStmTim3 sz lane s
  | .wrStmTim3 sz lane data => Sys2Proof.Machine.execWrStmTim3 sz lane data s
  | .rdStmTim4 sz lane => Sys2Proof.Machine.execRdStmTim4 sz lane s
  | .wrStmTim4 sz lane data => Sys2Proof.Machine.execWrStmTim4 sz lane data s
  | .rdStmTim5 sz lane => Sys2Proof.Machine.execRdStmTim5 sz lane s
  | .wrStmTim5 sz lane data => Sys2Proof.Machine.execWrStmTim5 sz lane data s
  | .rdStmTim6 sz lane => Sys2Proof.Machine.execRdStmTim6 sz lane s
  | .wrStmTim6 sz lane data => Sys2Proof.Machine.execWrStmTim6 sz lane data s
  | .rdStmCap sz lane => Sys2Proof.Machine.execRdStmCap sz lane s
  | .wrStmCap sz lane data => Sys2Proof.Machine.execWrStmCap sz lane data s
  | .rdStmCmp0 sz lane => Sys2Proof.Machine.execRdStmCmp0 sz lane s
  | .wrStmCmp0 sz lane data => Sys2Proof.Machine.execWrStmCmp0 sz lane data s
  | .rdStmCmp1 sz lane => Sys2Proof.Machine.execRdStmCmp1 sz lane s
  | .wrStmCmp1 sz lane data => Sys2Proof.Machine.execWrStmCmp1 sz lane data s
  | .rdStmCmcon sz lane => Sys2Proof.Machine.execRdStmCmcon sz lane s
  | .wrStmCmcon sz lane data => Sys2Proof.Machine.execWrStmCmcon sz lane data s
  | .rdStmIcr sz lane => Sys2Proof.Machine.execRdStmIcr sz lane s
  | .wrStmIcr sz lane data => Sys2Proof.Machine.execWrStmIcr sz lane data s
  | .rdStmIscr sz lane => Sys2Proof.Machine.execRdStmIscr sz lane s
  | .wrStmIscr sz lane data => Sys2Proof.Machine.execWrStmIscr sz lane data s
  | .rdStmTim0sv sz lane => Sys2Proof.Machine.execRdStmTim0sv sz lane s
  | .wrStmTim0sv sz lane data => Sys2Proof.Machine.execWrStmTim0sv sz lane data s
  | .rdStmCapsv sz lane => Sys2Proof.Machine.execRdStmCapsv sz lane s
  | .wrStmCapsv sz lane data => Sys2Proof.Machine.execWrStmCapsv sz lane data s
  | .rdStmOcs sz lane => Sys2Proof.Machine.execRdStmOcs sz lane s
  | .wrStmOcs sz lane data => Sys2Proof.Machine.execWrStmOcs sz lane data s
  | .rdStmKrstclr sz lane => Sys2Proof.Machine.execRdStmKrstclr sz lane s
  | .wrStmKrstclr sz lane data => Sys2Proof.Machine.execWrStmKrstclr sz lane data s
  | .rdStmKrst1 sz lane => Sys2Proof.Machine.execRdStmKrst1 sz lane s
  | .wrStmKrst1 sz lane data => Sys2Proof.Machine.execWrStmKrst1 sz lane data s
  | .rdStmKrst0 sz lane => Sys2Proof.Machine.execRdStmKrst0 sz lane s
  | .wrStmKrst0 sz lane data => Sys2Proof.Machine.execWrStmKrst0 sz lane data s
  | .rdStmAccen1 sz lane => Sys2Proof.Machine.execRdStmAccen1 sz lane s
  | .wrStmAccen1 sz lane data => Sys2Proof.Machine.execWrStmAccen1 sz lane data s
  | .rdStmAccen0 sz lane => Sys2Proof.Machine.execRdStmAccen0 sz lane s
  | .wrStmAccen0 sz lane data => Sys2Proof.Machine.execWrStmAccen0 sz lane data s
  | .rdUartClc sz lane => Sys2Proof.Machine.execRdUartClc sz lane s
  | .wrUartClc sz lane data => Sys2Proof.Machine.execWrUartClc sz lane data s
  | .rdUartIocr sz lane => Sys2Proof.Machine.execRdUartIocr sz lane s
  | .wrUartIocr sz lane data => Sys2Proof.Machine.execWrUartIocr sz lane data s
  | .rdUartId sz lane => Sys2Proof.Machine.execRdUartId sz lane s
  | .wrUartId sz lane data => Sys2Proof.Machine.execWrUartId sz lane data s
  | .rdUartTxfifocon sz lane => Sys2Proof.Machine.execRdUartTxfifocon sz lane s
  | .wrUartTxfifocon sz lane data => Sys2Proof.Machine.execWrUartTxfifocon sz lane data s
  | .rdUartRxfifocon sz lane => Sys2Proof.Machine.execRdUartRxfifocon sz lane s
  | .wrUartRxfifocon sz lane data => Sys2Proof.Machine.execWrUartRxfifocon sz lane data s
  | .rdUartBitcon sz lane => Sys2Proof.Machine.execRdUartBitcon sz lane s
  | .wrUartBitcon sz lane data => Sys2Proof.Machine.execWrUartBitcon sz lane data s
  | .rdUartFramecon sz lane => Sys2Proof.Machine.execRdUartFramecon sz lane s
  | .wrUartFramecon sz lane data => Sys2Proof.Machine.execWrUartFramecon sz lane data s
  | .rdUartDatcon sz lane => Sys2Proof.Machine.execRdUartDatcon sz lane s
  | .wrUartDatcon sz lane data => Sys2Proof.Machine.execWrUartDatcon sz lane data s
  | .rdUartBrg sz lane => Sys2Proof.Machine.execRdUartBrg sz lane s
  | .wrUartBrg sz lane data => Sys2Proof.Machine.execWrUartBrg sz lane data s
  | .rdUartBrd sz lane => Sys2Proof.Machine.execRdUartBrd sz lane s
  | .wrUartBrd sz lane data => Sys2Proof.Machine.execWrUartBrd sz lane data s
  | .rdUartLincon sz lane => Sys2Proof.Machine.execRdUartLincon sz lane s
  | .wrUartLincon sz lane data => Sys2Proof.Machine.execWrUartLincon sz lane data s
  | .rdUartLinbtimer sz lane => Sys2Proof.Machine.execRdUartLinbtimer sz lane s
  | .wrUartLinbtimer sz lane data => Sys2Proof.Machine.execWrUartLinbtimer sz lane data s
  | .rdUartLinhtimer sz lane => Sys2Proof.Machine.execRdUartLinhtimer sz lane s
  | .wrUartLinhtimer sz lane data => Sys2Proof.Machine.execWrUartLinhtimer sz lane data s
  | .rdUartFlags sz lane => Sys2Proof.Machine.execRdUartFlags sz lane s
  | .wrUartFlags sz lane data => Sys2Proof.Machine.execWrUartFlags sz lane data s
  | .rdUartFlagsset sz lane => Sys2Proof.Machine.execRdUartFlagsset sz lane s
  | .wrUartFlagsset sz lane data => Sys2Proof.Machine.execWrUartFlagsset sz lane data s
  | .rdUartFlagsclear sz lane => Sys2Proof.Machine.execRdUartFlagsclear sz lane s
  | .wrUartFlagsclear sz lane data => Sys2Proof.Machine.execWrUartFlagsclear sz lane data s
  | .rdUartFlagsenable sz lane => Sys2Proof.Machine.execRdUartFlagsenable sz lane s
  | .wrUartFlagsenable sz lane data => Sys2Proof.Machine.execWrUartFlagsenable sz lane data s
  | .rdUartTxdata sz lane => Sys2Proof.Machine.execRdUartTxdata sz lane s
  | .wrUartTxdata sz lane data ans => Sys2Proof.Machine.execWrUartTxdata sz lane data ans s
  | .rdUartRxdata sz lane => Sys2Proof.Machine.execRdUartRxdata sz lane s
  | .wrUartRxdata sz lane data => Sys2Proof.Machine.execWrUartRxdata sz lane data s
  | .rdUartCsr sz lane => Sys2Proof.Machine.execRdUartCsr sz lane s
  | .wrUartCsr sz lane data => Sys2Proof.Machine.execWrUartCsr sz lane data s
  | .rdUartRxdatad sz lane => Sys2Proof.Machine.execRdUartRxdatad sz lane s
  | .wrUartRxdatad sz lane data => Sys2Proof.Machine.execWrUartRxdatad sz lane data s
  | .rdUartOcs sz lane => Sys2Proof.Machine.execRdUartOcs sz lane s
  | .wrUartOcs sz lane data => Sys2Proof.Machine.execWrUartOcs sz lane data s
  | .rdUartKrstclr sz lane => Sys2Proof.Machine.execRdUartKrstclr sz lane s
  | .wrUartKrstclr sz lane data => Sys2Proof.Machine.execWrUartKrstclr sz lane data s
  | .rdUartKrst1 sz lane => Sys2Proof.Machine.execRdUartKrst1 sz lane s
  | .wrUartKrst1 sz lane data => Sys2Proof.Machine.execWrUartKrst1 sz lane data s
  | .rdUartKrst0 sz lane => Sys2Proof.Machine.execRdUartKrst0 sz lane s
  | .wrUartKrst0 sz lane data => Sys2Proof.Machine.execWrUartKrst0 sz lane data s
  | .rdUartAccen1 sz lane => Sys2Proof.Machine.execRdUartAccen1 sz lane s
  | .wrUartAccen1 sz lane data => Sys2Proof.Machine.execWrUartAccen1 sz lane data s
  | .rdUartAccen0 sz lane => Sys2Proof.Machine.execRdUartAccen0 sz lane s
  | .wrUartAccen0 sz lane data => Sys2Proof.Machine.execWrUartAccen0 sz lane data s
  | .rdIrUndeclared sz off => Sys2Proof.Machine.execRdIrUndeclared sz off s
  | .wrIrUndeclared sz off data => Sys2Proof.Machine.execWrIrUndeclared sz off data s
  | .rdCcuUndeclared sz off => Sys2Proof.Machine.execRdCcuUndeclared sz off s
  | .wrCcuUndeclared sz off data => Sys2Proof.Machine.execWrCcuUndeclared sz off data s
  | .rdStmUndeclared sz off => Sys2Proof.Machine.execRdStmUndeclared sz off s
  | .wrStmUndeclared sz off data => Sys2Proof.Machine.execWrStmUndeclared sz off data s
  | .rdUartUndeclared sz off => Sys2Proof.Machine.execRdUartUndeclared sz off s
  | .wrUartUndeclared sz off data ans => Sys2Proof.Machine.execWrUartUndeclared sz off data ans s
  | .evReset u => Sys2Proof.Machine.execEvReset u s
  | .evResetAll => Sys2Proof.Machine.execEvResetAll s
  | .evTime delta => Sys2Proof.Machine.execEvTime delta s
  | .evAlarm => Sys2Proof.Machine.execEvAlarm s
  | .evRx bytes => Sys2Proof.Machine.execEvRx bytes s
  | .evWritable ans => Sys2Proof.Machine.execEvWritable ans s
  | .evLock l => Sys2Proof.Machine.execEvLock l s
  | .evLevel idx l => Sys2Proof.Machine.execEvLevel idx l s
  | .evSnapshot => Sys2Proof.Machine.execEvSnapshot s
  | .evRestore blob => Sys2Proof.Machine.execEvRestore blob s

end Sys2Proof.Machine
end

