-- ==== Sys2Proof/Machine/Input.lean ====
section
/-! DEFINITION. Taking the next operation of the input: what stands here in the place of an instruction fetch (R20, D47; log 1). -/

namespace Sys2Proof.Machine

/-- `s` with the entry `e` taken from its input, `rest` left, and the CPU stores before it done (R98; log 12). -/
def takeEntry (e : Entry) (rest : List Entry) (s : State) : State :=
  { s with guest := Memory.writeAll s.guest e.stores, input := rest }

/-- `s` with the operation `o` put before its input. -/
def putFirst (o : Op) (s : State) : State := { s with input := { stores := [], op := o } :: s.input }

end Sys2Proof.Machine
end

