-- ==== Sys2Proof/Machine/Step.lean ====
section
/-! DEFINITION. One step: the next operation of the input is taken, decoded and executed (R10, R20, R94). -/

namespace Sys2Proof.Machine

/-- One step (log 1). -/
def step (s : State) : Host.Outcome State Fault Refusal :=
  match s.input with
  | [] => .refused .inputExhausted
  | e :: rest =>
    match decode e.op with
    | .error r => .refused (.undecodable r)
    | .ok i => exec i (takeEntry e rest s)

/-- `s` with the operation whose descriptor is the number `w`, all operands zero, put where `step` takes its next one. This stands for the
environment's giving the operation (log 2). -/
def State.withFetchWord (s : State) (_nbits w : Nat) : State := putFirst (Op.ofNumber w) s

end Sys2Proof.Machine
end

