-- ==== Sys2Proof/Machine/Construction.lean ====
section
/-! DEFINITION. Construction (R420, R457): the only place where the block can fault. -/

namespace Sys2Proof.Machine

/-- The block built with the parameters `p`, with or without a CPU consumer for the router and a clock unit for the timer: without
either there is no initial state (R420, D55, U21), and parameters that break the spec's constraints have none either (log 20). The
transport is not required: `Params.transportPresent` says whether it is there. -/
def construct (hasCpu hasClock : Bool) (p : Params) : Outcome :=
  if !hasCpu then .fault (.missingRequiredCollaborator .cpuConsumer)
  else if !hasClock then .fault (.missingRequiredCollaborator .clockUnit)
  else if p.wf then .next (State.init p)
  else .refused .illFormedParameters

end Sys2Proof.Machine
end

