-- ==== Sys2Proof/Safety.lean ====
section
/-! DEFINITION. The terms claims are stated in: the router's output agrees with its sources (R204), a state is well formed, an access
is aligned, and what a register operation does to its unit and leaves alone of the rest. -/

namespace Sys2Proof.Machine

/-- The source of index `i` qualifies in `s` (R202). -/
def SourceQualifies (s : State) (i : SourceIndex) : Prop :=
  (s.router.source i).pending = true ∧ ((s.router.source i).enabled = true ∨ i = s.cfg.resetIndex)

/-- `i` is the lowest qualifying index (R202). -/
def LowestQualifying (s : State) (i : SourceIndex) : Prop :=
  SourceQualifies s i ∧ ∀ j, j < i → ¬ SourceQualifies s j

/-- The output invariant of R204: the line is raised iff a source qualifies, and then the priority number is that of the lowest one. -/
def RouterOutputAgrees (s : State) : Prop :=
  (s.router.line = true ↔ ∃ i, SourceQualifies s i) ∧
    ∀ i, LowestQualifying s i → s.router.cpuPrio = (s.router.source i).prio

/-- The architectural state has the form a snapshot has, the retry of a pending item is armed (R387, R388, R473), and guest memory is in
canonical form. -/
def StoredFormHolds (s : State) : Prop :=
  s.toBlock.snapshotForm s.cfg = true ∧ (s.uart.txPend.isSome = true → s.uart.retryArmed = true) ∧ Memory.wf s.guest = true

/-- The lane is a multiple of the access size, which is what R82 asks of an access to a declared register. -/
abbrev Aligned (sz : Size) (lane : Lane) : Prop := lane.val % sizeBytes sz = 0

/-- R82 admits the access of size `sz` at the byte offset `off` of unit `u`. -/
abbrev Admitted (p : Params) (u : UnitId) (off : Offset) (sz : Size) : Prop :=
  off.val % sizeBytes sz = 0 ∧ off.val + sizeBytes sz ≤ windowSize p u

/-- The time, the parameters, the operations still to be taken and every byte of guest memory are as before. -/
def EnvironmentKept (s t : State) : Prop :=
  t.now = s.now ∧ t.cfg = s.cfg ∧ t.input = s.input ∧ ∀ a, Memory.read t.guest a = Memory.read s.guest a

/-- The time after the operation `i`: TIME adds its operand, RESTORE takes the blob's, nothing else moves it (R37, R473; log 22). -/
def timeAfter (i : Instr) (s : State) : Nat :=
  match i with
  | .evTime delta => s.now + delta
  | .evRestore b => b.now
  | _ => s.now

/-- The lock input after the operation `i`: LOCK sets it, RESTORE takes the blob's, nothing else moves it (R27, R246, R473; log 22). -/
def lockAfter (i : Instr) (s : State) : Bool :=
  match i with
  | .evLock l => l
  | .evRestore b => b.clock.pllLocked
  | _ => s.clock.pllLocked

/-- The operation can complete a transmission in `s`: a TXDATA write, a write of the block length, WRITABLE (R368, R388, R393). -/
def CanCompleteATransmission (i : Instr) (s : State) : Prop :=
  (∃ sz lane data ans, i = .wrUartTxdata sz lane data ans) ∨ (∃ ans, i = .evWritable ans) ∨
    (s.cfg.blkPresent = true ∧ ∃ sz off data ans, i = .wrUartUndeclared sz off data ans ∧ wordOffset off = s.cfg.blkLenOff)

/-- Between `s` and `t` exactly the diagnostics in `ds` were reported, however often and in whatever order (R38, R403, D44). -/
def Reports (s t : State) (ds : List Diag) : Prop :=
  ∃ new, t.diag = s.diag ++ new ∧ ∀ d, (∃ e ∈ new, d ∈ e) ↔ d ∈ ds

/-- Nothing changed but the router and what the operation returns. -/
def OnlyRouterChanged (s t : State) : Prop :=
  t.clock = s.clock ∧ t.timer = s.timer ∧ t.uart = s.uart ∧ t.emitted = s.emitted ∧ t.diag = s.diag ∧ EnvironmentKept s t

/-- Nothing changed but the clock unit, the trace of diagnostics and what the operation returns. -/
def OnlyClockChanged (s t : State) : Prop :=
  t.router = s.router ∧ t.timer = s.timer ∧ t.uart = s.uart ∧ t.emitted = s.emitted ∧ EnvironmentKept s t

/-- Nothing changed but the timer, the trace of diagnostics, what the operation returns and, through the level send of R320, the
router. -/
def TimerChangedAndSent (s t : State) : Prop :=
  t.clock = s.clock ∧ t.uart = s.uart ∧ t.emitted = s.emitted ∧ EnvironmentKept s t ∧
    t.router = (setLevel s.cfg.timerSrc (t.timer.cmp0.ir || t.timer.cmp1.ir) s).router

/-- Nothing changed but the UART, the traces, what the operation returns and, through the level send of R391, the router. -/
def UartChangedAndSent (s t : State) : Prop :=
  t.clock = s.clock ∧ t.timer = s.timer ∧ EnvironmentKept s t ∧ t.router = (sendUart { s with uart := t.uart }).router

/-- The read `rd` of a declared register returns the selected lanes of `v` and changes nothing else (R87). -/
def ReadsAs (rd : Size → Lane → Instr) (v : State → Word) : Prop :=
  ∀ s sz lane, Aligned sz lane → exec (rd sz lane) s = .next { s with result := .data (selectLanes (v s) lane sz) }

/-- The write `wr` of a clock register whose current word is `cur` gives the clock unit `upd` of the merged word, reports what `diags`
says of the clock unit after it, and changes nothing else (R85). -/
def ClockWrites (wr : Size → Lane → Word → Instr) (cur : State → Word) (upd : Word → Clock → Clock)
    (diags : Clock → List Diag) : Prop :=
  ∀ s sz lane data, Aligned sz lane →
    ∃ t, exec (wr sz lane data) s = .next t ∧ t.result = .nothing ∧
      t.clock = upd (mergeLanes (cur s) data lane sz) s.clock ∧
      Reports s t (diags t.clock) ∧ OnlyClockChanged s t

/-- The read `rd` of a tap returns the selected lanes of the counter from bit `shift` on, `capture` stores the upper half of the same
instant, what the frequency query reports goes to the trace, and nothing else changes (R270, R275). -/
def TapReadsAs (rd : Size → Lane → Instr) (shift : Nat) (capture : Word → Timer → Timer) : Prop :=
  ∀ s sz lane, Aligned sz lane →
    ∃ t, exec (rd sz lane) s = .next t ∧
      t.result = .data (selectLanes (BitVec.ofNat 32 (tick s / 2 ^ shift)) lane sz) ∧
      t.timer = capture (BitVec.ofNat 32 (tick s / 2 ^ 32)) s.timer ∧
      Reports s t (derivedDiags s.clock .timer) ∧
      t.router = s.router ∧ t.clock = s.clock ∧ t.uart = s.uart ∧ t.emitted = s.emitted ∧ EnvironmentKept s t

/-- What a query of a frequency in the clock state `c` reports: the illegal INSEL, the Freerunning mode and the Illegal mode (R231, R232). -/
def QueryReports (c : Clock) (d : Diag) : Prop :=
  (bits 29 28 c.ccucon1 ≠ 0 ∧ bits 29 28 c.ccucon1 ≠ 1 ∧ d = .illegalClockConfiguration (.insel (bits 29 28 c.ccucon1))) ∨
    (clockMode c = .freerunning ∧ d = .unimplementedClockMode) ∨
    (clockMode c = .illegal ∧ d = .illegalClockConfiguration .mode)

/-- The alarm of `t` serves `ch`, and its deadline is the moment the counter of `s` has advanced by `n`: never early and less than a
nanosecond late; at that moment the counter, not reduced modulo its width, has advanced by `n` at least (R317, R322). -/
def DeadlineMatches (s t : State) (ch : Channel) (n : Nat) : Prop :=
  ∃ a, t.timer.alarm = some a ∧ a.ch = ch ∧ s.now ≤ a.deadline ∧
    n * 10 ^ 9 ≤ (a.deadline - s.now) * timerFrequency s ∧
    (a.deadline - s.now) * timerFrequency s < n * 10 ^ 9 + timerFrequency s ∧
    (s.now - s.timer.t0) * timerFrequency s / 10 ^ 9 + n ≤ (a.deadline - s.timer.t0) * timerFrequency s / 10 ^ 9

/-- The write `wr` of a timer register whose current word is `cur` gives the timer `upd` of the merged word, reports nothing, sends the
timer's level, and changes nothing else (R85, R320). -/
def TimerWrites (wr : Size → Lane → Word → Instr) (cur : State → Word) (upd : Word → Timer → Timer) : Prop :=
  ∀ s sz lane data, Aligned sz lane →
    ∃ t, exec (wr sz lane data) s = .next t ∧ t.result = .nothing ∧
      t.timer = upd (mergeLanes (cur s) data lane sz) s.timer ∧ t.diag = s.diag ∧ TimerChangedAndSent s t

/-- The read `rd` of a UART register returns the selected lanes of `v`, gives the UART `upd`, sends the three levels, and changes nothing
else (R87, R391). -/
def UartReadsAs (rd : Size → Lane → Instr) (v : State → Word) (upd : Uart → Uart) : Prop :=
  ∀ s sz lane, Aligned sz lane →
    ∃ t, exec (rd sz lane) s = .next t ∧ t.result = .data (selectLanes (v s) lane sz) ∧ t.uart = upd s.uart ∧
      t.emitted = s.emitted ∧ t.diag = s.diag ∧ UartChangedAndSent s t

/-- The write `wr` of a UART register whose current word is `cur` gives the UART `upd` of the merged word, sends the three levels, and
changes nothing else (R85, R391). -/
def UartWrites (wr : Size → Lane → Word → Instr) (cur : State → Word) (upd : Word → Uart → Uart) : Prop :=
  ∀ s sz lane data, Aligned sz lane →
    ∃ t, exec (wr sz lane data) s = .next t ∧ t.result = .nothing ∧
      t.uart = upd (mergeLanes (cur s) data lane sz) s.uart ∧ t.emitted = s.emitted ∧ t.diag = s.diag ∧ UartChangedAndSent s t

/-- A source word as R121 lays it out: SRPN [7:0], the enable at bit 10, the pending bit at bit 24, the rest 0. -/
def sourceWord (x : Source) : Word :=
  BitVec.ofNat 32 (x.prio.toNat + (if x.enabled then 0x400 else 0) + (if x.pending then 0x1000000 else 0))

/-- The router of `t` has the sources given by `src`, its output agrees with them, and where none of them qualifies it holds the priority
number of `s` (R202). -/
def RouterEvaluated (s t : State) (src : SourceIndex → Source) : Prop :=
  (∀ j, t.router.source j = src j) ∧ RouterOutputAgrees t ∧
    ((∀ j, ¬ SourceQualifies t j) → t.router.cpuPrio = s.router.cpuPrio)

/-- The access to the undeclared offset `off` of unit `u` changed nothing of the units but the router, and was reported (R84). -/
def UndeclaredAccess (u : UnitId) (off : Offset) (d : Dir) (s t : State) : Prop :=
  t.clock = s.clock ∧ t.timer = s.timer ∧ t.uart = s.uart ∧ t.emitted = s.emitted ∧ EnvironmentKept s t ∧
    Reports s t [.unknownRegister u off d]

/-- One delivery attempt of `item` with the answer `ans`, from the UART `u` (R387): the bytes go to the transport, and the item is either
delivered with TC set or pending with the retry armed. -/
def Delivered (item : TxItem) (ans : Answer) (u : Uart) (s t : State) : Prop :=
  t.emitted = s.emitted ++ [.write (itemBytes s.guest item)] ∧
    (ans = .accepted → t.uart = { u with txPend := none, retryArmed := false, flags := u.flags ||| 0x00020000#32 }) ∧
    (ans = .wouldBlock → t.uart = { u with txPend := some item, retryArmed := true })

/-- The dispatch of `item` from the UART `u` (R368): discarded with TC set where there is no transport, the busy policy while a retry is
armed, else one delivery attempt. -/
def Dispatched (item : TxItem) (ans : Answer) (u : Uart) (s t : State) : Prop :=
  (s.cfg.transportPresent = false → t.emitted = s.emitted ∧ t.uart = { u with flags := u.flags ||| 0x00020000#32 }) ∧
    (s.cfg.transportPresent = true → u.retryArmed = true → t.emitted = s.emitted ∧
      t.uart = match s.cfg.txBusy with
        | .overwrite => { u with txPend := some item }
        | .drop => u) ∧
    (s.cfg.transportPresent = true → u.retryArmed = false → Delivered item ans u s t)

/-- The bytes the receive ring holds, oldest first (R34, R369). -/
def buffered (u : Uart) : List Byte := (List.range (ringUsed u)).map fun k => ringByte u (u.rd + Fin.ofNat 8192 k)

end Sys2Proof.Machine
end

