-- ==== Sys2Proof/Certificates/Slice0/Obligations.lean ====
section
/-! DEFINITION. The statements for the provers. Each docstring says which rules of the spec the statement formalises. -/

open Sys2Proof Sys2Proof.Machine

/-- For every well-formed operation, with every field and every operand at every value, the decoder reads the operation back from the
descriptor and operands the encoder writes. [30_encoding.md R110, R111, R112, R162] -/
def Obligations.DecodeReadsBackEveryEncodedOperation : Prop :=
  ∀ i : Instr, i.wellFormed = true → decode (encode i) = .ok i

/-- Whatever operation the decoder reads from a descriptor is well formed, and encoding it gives that very descriptor: no bit of an
accepted descriptor is ignored and no descriptor has two meanings. [30_encoding.md R110, R111, R112, R113] -/
def Obligations.DecodedOperationsEncodeBackToTheirDescriptor : Prop :=
  ∀ (o : Op) (i : Instr), decode o = .ok i → i.wellFormed = true ∧ (encode i).desc = o.desc

/-- The decoder accepts a descriptor iff it is a bus access with SZ not 0b11 and every reserved bit 0, or an event of the table of
R112 with no payload bit outside the fields of its row. A refused descriptor has no step, and neither has a LEVEL event on an
owned source. That the decoder accepts that event and its operation refuses it, because the owned sources are parameters, is the
model's choice (log 15). [R113, R112, R208] -/
def Obligations.RefusedDescriptorsAreThoseTheSpecLists : Prop :=
  (∀ o : Op, (∃ i, decode o = .ok i) ↔
    (bits 31 31 o.desc = 0 ∧ bits 29 28 o.desc ≠ 3 ∧ bits 27 26 o.desc = 0 ∧ bits 23 12 o.desc = 0) ∨
    (bits 31 31 o.desc = 1 ∧
      ∃ row ∈ ([(0x01, 4), (0x02, 1), (0x03, 1), (0x04, 1), (0x05, 1), (0x06, 1), (0x07, 2), (0x08, 512), (0x09, 1), (0x0A, 1)] : List (Nat × Nat)),
        bits 30 24 o.desc = row.1 ∧ bits 23 0 o.desc < row.2)) ∧
  (∀ s e rest, s.input = e :: rest → (∀ i, decode e.op ≠ .ok i) → ∃ r, step s = .refused r) ∧
  (∀ s i l, (i = s.cfg.timerSrc ∨ i = s.cfg.uartRxSrc ∨ i = s.cfg.uartTxSrc ∨ i = s.cfg.uartErrSrc) →
    exec (.evLevel i l) s = .refused .ownedSource)

/-- The descriptors the spec writes out, and one of each unit written out from its layout, decode to the operations they stand for.
[R111, R112, R162, R120, R130, R140] -/
def Obligations.WrittenOutDescriptorsDecode : Prop :=
  decode { desc := 0x63000044#32, args := { Operand.zero with data := 0x41#32 } } = .ok (.wrUartTxdata .word 0 0x41#32 .accepted) ∧
  decode { desc := 0x23000048#32, args := Operand.zero } = .ok (.rdUartRxdata .word 0) ∧
  decode { desc := 0x84000000#32, args := Operand.zero } = .ok .evAlarm ∧
  decode { desc := 0x88000105#32, args := Operand.zero } = .ok (.evLevel 5 true) ∧
  decode { desc := 0x40000029#32, args := { Operand.zero with data := 0x04#32 } } = .ok (.wrIrSrc 10 .byte 1 0x04#32) ∧
  decode { desc := 0x51000036#32, args := { Operand.zero with data := 0x1100#32 } } = .ok (.wrCcuCcucon1 .half 2 0x1100#32) ∧
  decode { desc := 0x02000013#32, args := Operand.zero } = .ok (.rdStmTim0 .byte 3)

/-- When the next operation of the input decodes to i, the step is exec of i in the state whose guest memory has taken the CPU stores
before the operation and whose input holds the operations after it. (How the operations are given is the model's choice: logs 1,
12.) [R10, R20, R94, R98] -/
def Obligations.StepRunsTheDecodedOperation : Prop :=
  ∀ s e rest i, s.input = e :: rest → decode e.op = .ok i →
    step s = exec i { s with guest := Memory.writeAll s.guest e.stores, input := rest }

/-- Whatever the parameters, the power-on state holds the values of R42 in every register, and time 0 and an empty trace. State.reset
is that state with the parameters of 95_test_vectors.md (the model's choice: log 4). [R42, R456, 10_state.md section 9] -/
def Obligations.PowerOnStateHoldsTheResetValues : Prop :=
  State.reset = State.init Params.reference ∧
  ∀ p, (∀ i, (State.init p).router.source i = { pending := false, enabled := false, prio := 0#8 }) ∧
    (State.init p).router.line = false ∧ (State.init p).router.cpuPrio = 0#8 ∧
    (State.init p).clock =
      { pllcon0 := 0x00000001#32, pllcon1 := 0x00000000#32, ccucon0 := 0x00010000#32, ccucon1 := 0x11000100#32
        findis := false, updPending := false, est := { timer := 1#4, serial := 1#4, bus := 1#4 }, pllLocked := true } ∧
    (State.init p).timer =
      { cmp0 := { word := 0#32, en := false, ir := false, os := false }
        cmp1 := { word := 0#32, en := false, ir := false, os := false }
        clc := 0#32, cmcon := 0#32, ocs := 0#32, krstclr := 0#32, krst1 := 0#32, krst0 := 0#32, accen1 := 0#32, accen0 := 0#32
        cap := 0#32, capsv := 0#32, t0 := 0, alarm := none } ∧
    (∀ r, uartWord p (State.init p).uart r = if r = .id then p.uartId else 0#32) ∧
    (∀ k, ringByte (State.init p).uart k = 0#8) ∧ (State.init p).uart.wr = 0 ∧ (State.init p).uart.rd = 0 ∧
    (State.init p).uart.txPend = none ∧ (State.init p).uart.retryArmed = false ∧
    (State.init p).uart.blkLen = 0#32 ∧ (State.init p).uart.blkAddr = 0#32 ∧
    (State.init p).now = 0 ∧ (State.init p).diag = []

/-- RESET_ALL completes in every state: every source is clear and the line lowered, the clock unit, timer and UART are as at power-on
but for the lock input, which keeps its value, and the counter start, which is now. At time 0 with the PLL locked the result is
the power-on state, whose trace is empty. [R451, R456] -/
def Obligations.ResetAllGivesThePowerOnState : Prop :=
  ∀ s, ∃ t, exec .evResetAll s = .next t ∧
    (∀ i, t.router.source i = { pending := false, enabled := false, prio := 0#8 }) ∧ t.router.line = false ∧ t.router.cpuPrio = 0#8 ∧
    t.clock = { (State.init s.cfg).clock with pllLocked := s.clock.pllLocked } ∧
    t.timer = { (State.init s.cfg).timer with t0 := s.now } ∧
    t.uart = (State.init s.cfg).uart ∧ t.emitted = s.emitted ∧ t.diag = s.diag ∧ t.result = .nothing ∧ EnvironmentKept s t ∧
    (s.now = 0 → s.clock.pllLocked = true → t.toBlock = (State.init s.cfg).toBlock) ∧ (State.init s.cfg).diag = []

/-- RESET(IR) clears every source, lowers the line and clears the priority number, and changes nothing else. RESET(CCU) gives the
clock unit its reset values, keeps the lock input and changes nothing else, so an armed alarm keeps its deadline; with the second
input at 20 MHz the timer domain then runs at 20 MHz. [R452, R453] -/
def Obligations.ResetOfTheRouterAndOfTheClock : Prop :=
  (∀ s, ∃ t, exec (.evReset .ir) s = .next t ∧
    (∀ i, t.router.source i = { pending := false, enabled := false, prio := 0#8 }) ∧ t.router.line = false ∧ t.router.cpuPrio = 0#8 ∧
    t.result = .nothing ∧ OnlyRouterChanged s t) ∧
  (∀ s, ∃ t, exec (.evReset .ccu) s = .next t ∧
    t.clock =
      { pllcon0 := 0x00000001#32, pllcon1 := 0x00000000#32, ccucon0 := 0x00010000#32, ccucon1 := 0x11000100#32
        findis := false, updPending := false, est := { timer := 1#4, serial := 1#4, bus := 1#4 }, pllLocked := s.clock.pllLocked } ∧
    (s.cfg.fIn1 = 20000000 → derivedClock t.cfg t.clock .timer = 20000000) ∧
    t.result = .nothing ∧ t.diag = s.diag ∧ OnlyClockChanged s t)

/-- RESET(STM) clears every timer register and flag, restarts the counter at now, disarms the alarm and sends the level false.
RESET(UART) clears every register word but ID, the ring, the cursors, the transmit slot, the retry latch and the block pair, and
sends the three levels, all false; canReceive is false after it. Nothing else changes. [R454, R455] -/
def Obligations.ResetOfTheTimerAndOfTheUart : Prop :=
  (∀ s, ∃ t, exec (.evReset .stm) s = .next t ∧
    t.timer =
      { cmp0 := { word := 0#32, en := false, ir := false, os := false }
        cmp1 := { word := 0#32, en := false, ir := false, os := false }
        clc := 0#32, cmcon := 0#32, ocs := 0#32, krstclr := 0#32, krst1 := 0#32, krst0 := 0#32, accen1 := 0#32, accen0 := 0#32
        cap := 0#32, capsv := 0#32, t0 := s.now, alarm := none } ∧
    (t.router.source s.cfg.timerSrc).pending = false ∧ t.result = .nothing ∧ t.diag = s.diag ∧ TimerChangedAndSent s t) ∧
  (∀ s, ∃ t, exec (.evReset .uart) s = .next t ∧
    (∀ r, uartWord s.cfg t.uart r = if r = .id then s.cfg.uartId else 0#32) ∧
    (∀ k, ringByte t.uart k = 0#8) ∧ t.uart.wr = 0 ∧ t.uart.rd = 0 ∧ t.uart.txPend = none ∧ t.uart.retryArmed = false ∧
    t.uart.blkLen = 0#32 ∧ t.uart.blkAddr = 0#32 ∧
    rxLevel t.uart = false ∧ txLevel t.uart = false ∧ errLevel t.uart = false ∧ canReceive t.uart = false ∧
    t.result = .nothing ∧ t.emitted = s.emitted ∧ t.diag = s.diag ∧ UartChangedAndSent s t)

/-- The router output agrees with the sources, and the stored form holds, at State.reset and at the power-on state of every choice of
parameters. [R204, R42, R456, 40_router.md section 1, 10_state.md section 9] -/
def Obligations.InvariantsHoldAtPowerOn : Prop :=
  (RouterOutputAgrees State.reset ∧ StoredFormHolds State.reset) ∧
  ∀ p, RouterOutputAgrees (State.init p) ∧ StoredFormHolds (State.init p)

/-- The invariant of R204, the line is raised iff a source qualifies and the priority number is then that of the lowest one, holds at
power-on with any input, and every step from any state where it holds, reachable or not, gives a state where it holds. [R204] -/
def Obligations.EveryStepKeepsTheRouterOutputInvariant : Prop :=
  (∀ p es, RouterOutputAgrees { State.init p with input := es }) ∧
  ∀ s t, RouterOutputAgrees s → step s = .next t → RouterOutputAgrees t

/-- From any state in which the bits the layouts store as 0 are 0, the counter started no later than now, the ring and guest memory
are in canonical form with ring slots below 8192, a retry is armed iff an item is pending, an item waits only where there is a
transport, a block item only where the block pair exists and then of positive length, and an absent block pair is 0, every step
gives such a state. [R24, R31, R34, R35, R36, R132, R134, R152, R331, R387, R388, R473] -/
def Obligations.EveryStepKeepsTheStoredForm : Prop :=
  ∀ s t, StoredFormHolds s → step s = .next t → StoredFormHolds t

/-- No step and no operation, whatever the state, ends in a fault. A block without its CPU consumer or without its clock unit has no
initial state; with both, and with well-formed parameters, construction gives the power-on state, whether or not there is a
transport. What parameters are well formed, and that the CPU consumer is missed first where both are absent, is the model's choice
(log 20). [R402, R420, R401, 60_exceptions.md section 1] -/
def Obligations.OnlyConstructionFaults : Prop :=
  (∀ s f, step s ≠ .fault f) ∧ (∀ i s f, exec i s ≠ .fault f) ∧
  (∀ hasClock p, construct false hasClock p = .fault (.missingRequiredCollaborator .cpuConsumer)) ∧
  (∀ p, construct true false p = .fault (.missingRequiredCollaborator .clockUnit)) ∧
  (∀ p, p.wf → construct true true p = .next (State.init p))

/-- A bus access at the head of the input completes if its offset is a multiple of its size and it ends inside its unit's window,
declared offset or not, and is refused otherwise. [R82] -/
def Obligations.AdmittedAccessesCompleteOthersAreRefused : Prop :=
  ∀ s e rest d sz u off, s.input = e :: rest → Form.parse e.op.desc = .ok (.bus d sz u off) →
    (Admitted s.cfg u off sz → ∃ t, step s = .next t) ∧
    (¬ Admitted s.cfg u off sz → step s = .refused .misaligned ∨ step s = .refused .outsideWindow)

/-- Whatever operation is executed in whatever state, if it completes then guest memory, the parameters and the operations still to be
taken are as before. [R81, R6, 20_memory.md section 1] -/
def Obligations.NoOperationWritesGuestMemory : Prop :=
  ∀ i s t, exec i s = .next t → t.guest = s.guest ∧ t.cfg = s.cfg ∧ t.input = s.input

/-- Whatever the trace holds, an operation does the same: it completes with the same state and appends the same diagnostics, or stops
for the same reason. [R38] -/
def Obligations.TheTraceIsAppendedToAndNeverRead : Prop :=
  (∀ i s t, exec i s = .next t →
    ∃ new, t.diag = s.diag ++ new ∧ ∀ d, exec i { s with diag := d } = .next { t with diag := d ++ new }) ∧
  (∀ i s r, exec i s = .refused r → ∀ d, exec i { s with diag := d } = .refused r)

/-- If an operation completes, the virtual time is as before unless it is TIME, which adds its operand, and the lock input is as
before unless it is LOCK, which sets it; RESTORE puts both to the snapshot's, which is the model's reading (log 22). [R37, R27,
R470, R246, R473] -/
def Obligations.OnlyTheirEventsMoveTimeAndLock : Prop :=
  ∀ i s t, exec i s = .next t → t.now = timeAfter i s ∧ t.clock.pllLocked = lockAfter i s

/-- If an operation completes, the established dividers are as before unless it is a CCUCON0 write whose merged bit 30 is 0, a clock
reset or a restore. A CCUCON1 write that keeps INSEL, and a CCUCON0 write whose merged bit 30 is 1, change the frequency of no
domain. [R459, R26, R243, R245, R453, R473] -/
def Obligations.DividersAreEstablishedOnlyByACommit : Prop :=
  (∀ i s t, exec i s = .next t →
    t.clock.est = s.clock.est ∨
    (∃ sz lane data, i = .wrCcuCcucon0 sz lane data ∧ bit 30 (mergeLanes (ccucon0Read s.clock) data lane sz) = false) ∨
    i = .evReset .ccu ∨ i = .evResetAll ∨ ∃ b, i = .evRestore b) ∧
  (∀ s t sz lane data, exec (.wrCcuCcucon1 sz lane data) s = .next t →
    bits 29 28 (mergeLanes s.clock.ccucon1 data lane sz) = bits 29 28 s.clock.ccucon1 →
    ∀ d, derivedClock t.cfg t.clock d = derivedClock s.cfg s.clock d) ∧
  (∀ s t sz lane data, exec (.wrCcuCcucon0 sz lane data) s = .next t →
    bit 30 (mergeLanes (ccucon0Read s.clock) data lane sz) = true →
    ∀ d, derivedClock t.cfg t.clock d = derivedClock s.cfg s.clock d)

/-- If a bus access to a unit completes, the other units are as before; the clock unit sends nothing to the router, a timer access
changes no source but the timer's, a UART access none but its three, and only a router access changes an enable or a priority
number. [R3, R21, R88, R209] -/
def Obligations.AnAccessReachesOnlyItsUnitAndTheRouter : Prop :=
  ∀ i s t d sz u off, i.form = .bus d sz u off → exec i s = .next t →
    (u ≠ .ccu → t.clock = s.clock) ∧ (u ≠ .stm → t.timer = s.timer) ∧ (u ≠ .uart → t.uart = s.uart ∧ t.emitted = s.emitted) ∧
    (u = .ccu → t.router = s.router) ∧
    (u = .stm → ∀ j, j ≠ s.cfg.timerSrc → t.router.source j = s.router.source j) ∧
    (u = .uart → ∀ j, j ≠ s.cfg.uartRxSrc → j ≠ s.cfg.uartTxSrc → j ≠ s.cfg.uartErrSrc → t.router.source j = s.router.source j) ∧
    (u ≠ .ir → ∀ j, (t.router.source j).enabled = (s.router.source j).enabled ∧ (t.router.source j).prio = (s.router.source j).prio)

/-- If a bus read completes, the clock unit, the time and the transport requests are as before. The timer is as before unless a
capturing tap was read, and then only CAP or CAPSV can differ. The UART is as before unless RXDATA was read, and then only the
read cursor can differ. The router is as before unless the UART was read. Any read but RXDATA's, made again, completes and returns
the same value. [R90] -/
def Obligations.ReadsHaveOnlyTheListedSideEffects : Prop :=
  ∀ i s t sz u off, i.form = .bus .read sz u off → exec i s = .next t →
    t.clock = s.clock ∧ t.now = s.now ∧ t.emitted = s.emitted ∧ t.guest = s.guest ∧
    t.timer = { s.timer with cap := t.timer.cap, capsv := t.timer.capsv } ∧ t.uart = { s.uart with rd := t.uart.rd } ∧
    ((∀ z l, i ≠ .rdStmTim0 z l ∧ i ≠ .rdStmTim1 z l ∧ i ≠ .rdStmTim2 z l ∧ i ≠ .rdStmTim3 z l ∧ i ≠ .rdStmTim4 z l ∧
      i ≠ .rdStmTim5 z l) → t.timer.cap = s.timer.cap) ∧
    ((∀ z l, i ≠ .rdStmTim0sv z l) → t.timer.capsv = s.timer.capsv) ∧
    ((∀ z l, i ≠ .rdUartRxdata z l) → t.uart.rd = s.uart.rd) ∧ (u ≠ .uart → t.router = s.router) ∧
    ((∀ z l, i ≠ .rdUartRxdata z l) → ∃ t', exec i t = .next t' ∧ t'.result = t.result)

/-- After an access to the UART window, an RX or a WRITABLE event, the router is what the level inputs RX, TX, ERR, in that order,
make of it, so the pending bit of each of the UART's sources is its level: an enabled flag of its mask reads 1. [R391, R332] -/
def Obligations.UartOperationsSendTheThreeLevels : Prop :=
  ∀ i s t, s.cfg.wf → ((∃ d sz off, i.form = .bus d sz .uart off) ∨ (∃ bytes, i = .evRx bytes) ∨ (∃ ans, i = .evWritable ans)) →
    exec i s = .next t →
    t.router =
      (setLevel s.cfg.uartErrSrc (decide (flagsRead t.uart &&& t.uart.flagsenable &&& 0x4FFD0000#32 ≠ 0#32))
        (setLevel s.cfg.uartTxSrc (decide (flagsRead t.uart &&& t.uart.flagsenable &&& 0x80020000#32 ≠ 0#32))
          (setLevel s.cfg.uartRxSrc (decide (flagsRead t.uart &&& t.uart.flagsenable &&& 0x10000000#32 ≠ 0#32)) s))).router ∧
    ((t.router.source s.cfg.uartRxSrc).pending = true ↔ flagsRead t.uart &&& t.uart.flagsenable &&& 0x10000000#32 ≠ 0#32) ∧
    ((t.router.source s.cfg.uartTxSrc).pending = true ↔ flagsRead t.uart &&& t.uart.flagsenable &&& 0x80020000#32 ≠ 0#32) ∧
    ((t.router.source s.cfg.uartErrSrc).pending = true ↔ flagsRead t.uart &&& t.uart.flagsenable &&& 0x4FFD0000#32 ≠ 0#32)

/-- After a write to the timer window, declared or not, and after an ALARM event the router is what the level input of the timer makes
of it, and the pending bit of the timer's source is ir[0] or ir[1]; a read of the timer window leaves the router alone. [R320] -/
def Obligations.TimerWritesAndAlarmsSendTheLevel : Prop :=
  (∀ i s t, ((∃ sz off, i.form = .bus .write sz .stm off) ∨ i = .evAlarm) → exec i s = .next t →
    t.router = (setLevel s.cfg.timerSrc (t.timer.cmp0.ir || t.timer.cmp1.ir) s).router ∧
    (t.router.source s.cfg.timerSrc).pending = (t.timer.cmp0.ir || t.timer.cmp1.ir)) ∧
  (∀ i s t sz off, i.form = .bus .read sz .stm off → exec i s = .next t → t.router = s.router)

/-- LEVEL on a source that no unit owns completes: where the pending bit equals the level nothing changes; else the pending bit takes
the level and the output is evaluated. The same is said of the level input setLevel itself, on any source. LEVEL on an owned
source is refused. [R201, R208] -/
def Obligations.LevelEventSetsThePendingBit : Prop :=
  (∀ s i l, ((s.router.source i).pending = l → setLevel i l s = s) ∧
    ((s.router.source i).pending ≠ l →
      RouterEvaluated s (setLevel i l s) (fun j => if j = i then { s.router.source i with pending := l } else s.router.source j) ∧
      setLevel i l s = { s with router := (setLevel i l s).router })) ∧
  (∀ s i l, i ≠ s.cfg.timerSrc → i ≠ s.cfg.uartRxSrc → i ≠ s.cfg.uartTxSrc → i ≠ s.cfg.uartErrSrc →
    ∃ t, exec (.evLevel i l) s = .next t ∧ t.result = .nothing ∧ OnlyRouterChanged s t ∧ t.router = (setLevel i l s).router) ∧
  (∀ s i l, (i = s.cfg.timerSrc ∨ i = s.cfg.uartRxSrc ∨ i = s.cfg.uartTxSrc ∨ i = s.cfg.uartErrSrc) →
    exec (.evLevel i l) s = .refused .ownedSource)

/-- If a source qualifies, pending and enabled or at RESET_INDEX, evaluate raises the line and copies the priority number of the
lowest qualifying index, whatever the priority numbers; if none does it lowers the line and keeps the priority number. It changes
nothing else. [R202, R407] -/
def Obligations.EvaluateForwardsTheLowestQualifyingSource : Prop :=
  ∀ s, (∀ i, LowestQualifying s i → (evaluate s).router.line = true ∧ (evaluate s).router.cpuPrio = (s.router.source i).prio) ∧
    ((∃ i, SourceQualifies s i) → ∃ i, LowestQualifying s i) ∧
    ((∀ i, ¬ SourceQualifies s i) → (evaluate s).router.line = false ∧ (evaluate s).router.cpuPrio = s.router.cpuPrio) ∧
    (∀ j, (evaluate s).router.source j = s.router.source j) ∧ evaluate s = { s with router := (evaluate s).router }

/-- An aligned read of a source word, of any width, completes with the selected lanes of the word that holds the priority number at
[7:0], the enable at bit 10 and the pending bit at bit 24, all other bits 0, and changes nothing else. [R205] -/
def Obligations.SourceWordReads : Prop :=
  ∀ s i sz lane, s.cfg.wf → Aligned sz lane →
    exec (.rdIrSrc i sz lane) s = .next { s with result := .data (selectLanes (sourceWord (s.router.source i)) lane sz) }

/-- An aligned write of a source word, of any width, completes: with v the merged word, the priority number is v[7:0], ENCMD 0b10
enables, 0b11 disables, the others keep the enable, CLRR is applied before SETR, no other source changes, and the output is
evaluated. Nothing but the router changes. [R206] -/
def Obligations.SourceWordWrites : Prop :=
  ∀ s i sz lane data, s.cfg.wf → Aligned sz lane →
    let x := s.router.source i
    let v := mergeLanes (sourceWord x) data lane sz
    ∃ t, exec (.wrIrSrc i sz lane data) s = .next t ∧ t.result = .nothing ∧ OnlyRouterChanged s t ∧
      RouterEvaluated s t (fun j =>
        if j = i then
          { prio := v.extractLsb' 0 8
            enabled := if bits 10 9 v = 2 then true else if bits 10 9 v = 3 then false else x.enabled
            pending := if bit 26 v then true else if bit 25 v then false else x.pending }
        else s.router.source j)

/-- An aligned write of a source word that does not cover byte lane 1 leaves the enable of every source as it was, and, if it does not
cover lane 3 either, every pending bit; if it does not cover lane 0, every priority number. [R468, R206, R205, R85] -/
def Obligations.NarrowSourceWritesKeepTheEnable : Prop :=
  ∀ s t i sz lane data, exec (.wrIrSrc i sz lane data) s = .next t →
    ((lane.val > 1 ∨ lane.val + sizeBytes sz ≤ 1) → ∀ j, (t.router.source j).enabled = (s.router.source j).enabled) ∧
    (lane.val + sizeBytes sz ≤ 3 → ∀ j, (t.router.source j).pending = (s.router.source j).pending) ∧
    (lane.val > 0 → ∀ j, (t.router.source j).prio = (s.router.source j).prio)

/-- In each unit an admitted access to an undeclared offset completes, a read returns 0, a write changes no unit, and the access is
reported; a timer write and every UART access still send their levels. (The UART's offsets that a present block pair declares are
not undeclared.) That the router has such offsets where its window is larger than 0x400 bytes is the model's reading of R207, with
the window a parameter (log 6). [R84, R207, R88, R320, R391] -/
def Obligations.UndeclaredOffsetsReadZeroAndAreReported : Prop :=
  ∀ s sz off data ans,
    (irUndeclared off = true → Admitted s.cfg .ir off sz →
      (∃ t, exec (.rdIrUndeclared sz off) s = .next t ∧ t.result = .data 0#32 ∧ t.router = s.router ∧ UndeclaredAccess .ir off .read s t) ∧
      (∃ t, exec (.wrIrUndeclared sz off data) s = .next t ∧ t.result = .nothing ∧ t.router = s.router ∧
        UndeclaredAccess .ir off .write s t)) ∧
    (ccuUndeclared off = true → Admitted s.cfg .ccu off sz →
      (∃ t, exec (.rdCcuUndeclared sz off) s = .next t ∧ t.result = .data 0#32 ∧ t.router = s.router ∧ UndeclaredAccess .ccu off .read s t) ∧
      (∃ t, exec (.wrCcuUndeclared sz off data) s = .next t ∧ t.result = .nothing ∧ t.router = s.router ∧
        UndeclaredAccess .ccu off .write s t)) ∧
    (stmUndeclared off = true → Admitted s.cfg .stm off sz →
      (∃ t, exec (.rdStmUndeclared sz off) s = .next t ∧ t.result = .data 0#32 ∧ t.router = s.router ∧ UndeclaredAccess .stm off .read s t) ∧
      (∃ t, exec (.wrStmUndeclared sz off data) s = .next t ∧ t.result = .nothing ∧ t.router = (sendTimer s).router ∧
        UndeclaredAccess .stm off .write s t)) ∧
    (uartUndeclared off = true → Admitted s.cfg .uart off sz →
      (s.cfg.blkPresent = true → wordOffset off ≠ s.cfg.blkAddrOff ∧ wordOffset off ≠ s.cfg.blkLenOff) →
      (∃ t, exec (.rdUartUndeclared sz off) s = .next t ∧ t.result = .data 0#32 ∧ t.router = (sendUart s).router ∧
        UndeclaredAccess .uart off .read s t) ∧
      (∃ t, exec (.wrUartUndeclared sz off data ans) s = .next t ∧ t.result = .nothing ∧ t.router = (sendUart s).router ∧
        UndeclaredAccess .uart off .write s t))

/-- A read of n bytes at a lane returns those bytes of the word, zero-extended: the word shifted right by the lane, modulo 2^8n. The
merged word of a write of n bytes at a lane has the data's bytes in the n lanes from there on and the current word's in every
other lane. [R83, R85, R87] -/
def Obligations.NarrowAccessesSelectAndMergeByteLanes : Prop :=
  (∀ full lane sz, (selectLanes full lane sz).toNat = full.toNat / 2 ^ (8 * lane.val) % 2 ^ (8 * sizeBytes sz)) ∧
  (∀ (cur d : Word) (lane : Lane) (sz : Size) (k : Nat), k < 4 →
    (mergeLanes cur d lane sz).extractLsb' (8 * k) 8 =
      if lane.val ≤ k ∧ k < lane.val + sizeBytes sz then d.extractLsb' (8 * (k - lane.val)) 8 else cur.extractLsb' (8 * k) 8)

/-- An aligned read of PLLSTAT, PLLCON0, PLLCON1, CCUCON0 or CCUCON1, of any width, completes with the selected lanes of the read
value and changes nothing. [R236, R238, R240, R242, R244] -/
def Obligations.ClockRegisterReads : Prop :=
  ReadsAs .rdCcuPllstat (fun s =>
      BitVec.ofNat 32 ((if bit 0 s.clock.pllcon0 then 1 else 0) + (if s.clock.pllLocked then 4 else 0) +
        (if s.clock.findis then 8 else 0) + 16 + 32)) ∧
  ReadsAs .rdCcuPllcon0 (fun s => s.clock.pllcon0) ∧
  ReadsAs .rdCcuPllcon1 (fun s => s.clock.pllcon1) ∧
  ReadsAs .rdCcuCcucon0 (fun s => (s.clock.ccucon0 &&& 0x3FFFFFFF#32) ||| (if s.clock.updPending then 0x40000000#32 else 0#32)) ∧
  ReadsAs .rdCcuCcucon1 (fun s => s.clock.ccucon1)

/-- An aligned write, of any width, completes and reports nothing: a PLLSTAT write changes nothing, a PLLCON1 write stores the merged
word, a CCUCON1 write stores it and sets the update-pending latch. Nothing else changes. [R237, R241, R245] -/
def Obligations.ClockRegisterWrites : Prop :=
  ClockWrites .wrCcuPllstat (fun s => pllstatRead s.clock) (fun _ c => c) (fun _ => []) ∧
  ClockWrites .wrCcuPllcon1 (fun s => s.clock.pllcon1) (fun v c => { c with pllcon1 := v }) (fun _ => []) ∧
  ClockWrites .wrCcuCcucon1 (fun s => s.clock.ccucon1) (fun v c => { c with ccucon1 := v, updPending := true }) (fun _ => [])

/-- An aligned PLLCON0 write, of any width, completes: with v the merged word, bit 5 clears and then bit 4 sets the free-run bit, the
word without bits 4 and 5 is stored, and the mode-specific diagnostic is reported where the new mode is Freerunning or Illegal.
Nothing else changes, an armed alarm neither. [R239] -/
def Obligations.Pllcon0WriteSetsModeAndFactors : Prop :=
  ClockWrites .wrCcuPllcon0 (fun s => s.clock.pllcon0)
    (fun v c => { c with findis := if bit 4 v then true else if bit 5 v then false else c.findis, pllcon0 := v &&& ~~~0x00000030#32 })
    (fun c => if clockMode c = .freerunning then [.unimplementedClockMode]
      else if clockMode c = .illegal then [.illegalClockConfiguration .mode] else [])

/-- An aligned CCUCON0 write, of any width, completes. Bits 29:0 of the merged word are stored. With bit 30 clear the three dividers
are established from the two words, the latch is cleared, and exactly the domains whose new divider is 7, 9, 11, 13 or 14 are
reported; with bit 30 set the latch is set and nothing is reported. Nothing else changes. [R243, R235] -/
def Obligations.Ccucon0WriteCommitsOrSetsTheLatch : Prop :=
  ∀ s sz lane data, Aligned sz lane →
    let v := mergeLanes (ccucon0Read s.clock) data lane sz
    ∃ t, exec (.wrCcuCcucon0 sz lane data) s = .next t ∧ t.result = .nothing ∧ OnlyClockChanged s t ∧
      (bit 30 v = false →
        t.clock =
          { s.clock with
            ccucon0 := v &&& 0x3FFFFFFF#32
            est := { bus := v.extractLsb' 16 4, timer := s.clock.ccucon1.extractLsb' 8 4, serial := s.clock.ccucon1.extractLsb' 24 4 }
            updPending := false } ∧
        ∃ ds, Reports s t ds ∧ ∀ d, d ∈ ds ↔
          ∃ dom, d = .suspiciousDivider dom (establishedDivider t.clock.est dom) ∧
            establishedDivider t.clock.est dom ∈ [7#4, 9#4, 11#4, 13#4, 14#4]) ∧
      (bit 30 v = true →
        t.clock = { s.clock with ccucon0 := v &&& 0x3FFFFFFF#32, updPending := true } ∧ t.diag = s.diag)

/-- The mode is Prescaler with the bypass bit set, else Freerunning with the free-run bit set, else Normal if locked, else Illegal.
The PLL frequency is f*N/(P*K2) in Normal and f/K1 in Prescaler mode, rounded down, and 0 in the other two; a domain has that
divided by its established divider, 0 where the divider is 0. A PLL query reports an INSEL of 2 or 3, the Freerunning mode and the
Illegal mode, and nothing else; a domain query reports the same, and nothing where the divider is 0. That INSEL is reported in
every mode, and that nothing is reported with the divider 0, is the model's reading (log 19). The source's two checks hold. [R230,
R231, R232, R233, R248, R400] -/
def Obligations.FrequencyOfEachMode : Prop :=
  (∀ c, clockMode c = if bit 0 c.pllcon0 then .prescaler else if c.findis then .freerunning else if c.pllLocked then .normal else .illegal) ∧
  (∀ p c, (bits 29 28 c.ccucon1 = 0 → oscillatorFrequency p c = p.fIn0) ∧ (bits 29 28 c.ccucon1 = 1 → oscillatorFrequency p c = p.fIn1) ∧
    (bits 29 28 c.ccucon1 ≠ 0 → bits 29 28 c.ccucon1 ≠ 1 → oscillatorFrequency p c = 0)) ∧
  (∀ p c, (clockMode c = .normal →
      pllFrequency p c = oscillatorFrequency p c * (bits 15 9 c.pllcon0 + 1) / ((bits 27 24 c.pllcon0 + 1) * (bits 6 0 c.pllcon1 + 1))) ∧
    (clockMode c = .prescaler → pllFrequency p c = oscillatorFrequency p c / (bits 22 16 c.pllcon1 + 1)) ∧
    (clockMode c = .freerunning → pllFrequency p c = 0) ∧ (clockMode c = .illegal → pllFrequency p c = 0)) ∧
  (∀ p c d, derivedClock p c d =
    if establishedDivider c.est d = 0#4 then 0 else pllFrequency p c / (establishedDivider c.est d).toNat) ∧
  (∀ c : Clock, establishedDivider c.est .timer = c.est.timer ∧ establishedDivider c.est .serial = c.est.serial ∧
    establishedDivider c.est .bus = c.est.bus) ∧
  (∀ c x, x ∈ oscillatorDiags c ↔
    bits 29 28 c.ccucon1 ≠ 0 ∧ bits 29 28 c.ccucon1 ≠ 1 ∧ x = .illegalClockConfiguration (.insel (bits 29 28 c.ccucon1))) ∧
  (∀ c x, x ∈ pllDiags c ↔ QueryReports c x) ∧
  (∀ c d x, x ∈ derivedDiags c d ↔ establishedDivider c.est d ≠ 0#4 ∧ QueryReports c x) ∧
  (∀ p c, p.fIn1 = 20000000 → bits 29 28 c.ccucon1 = 1 → c.findis = false → c.pllLocked = true →
    (c.pllcon0 = 0x00000200#32 → c.pllcon1 = 0#32 → pllFrequency p c = 40000000) ∧
    (c.pllcon0 = 0x00000001#32 → c.pllcon1 = 0x00030000#32 → pllFrequency p c = 5000000))

/-- LOCK and TIME complete in every state. LOCK changes the lock input alone; TIME adds its operand to now and changes nothing else,
so a reached deadline does not fire inside it. [R246, R470] -/
def Obligations.LockAndTimeEvents : Prop :=
  (∀ s l, exec (.evLock l) s = .next { s with clock := { s.clock with pllLocked := l }, result := .nothing }) ∧
  (∀ s delta, exec (.evTime delta) s = .next { s with now := s.now + delta, result := .nothing })

/-- The counter is the elapsed time times the timer-domain frequency of the moment, rounded down, modulo 2^64. An aligned read of TIM0
to TIM6 or TIM0SV, of any width, completes with the selected lanes of the 32 counter bits from its shift on; TIM0 to TIM5 store
the upper 32 bits in CAP, TIM0SV in CAPSV, TIM6 nowhere. The frequency query's diagnostics are reported, with the divider 0 and
INSEL 2 or 3 as the model reads them (log 19); nothing else changes. [R270, R275, R277, R279, R281, R283, R285, R287, R301, R232,
R233, R400] -/
def Obligations.TapReadsShowOneInstantOfTheCounter : Prop :=
  (∀ s, tick s = (s.now - s.timer.t0) * derivedClock s.cfg s.clock .timer / 10 ^ 9 % 2 ^ 64) ∧
  TapReadsAs .rdStmTim0 0 (fun up t => { t with cap := up }) ∧
  TapReadsAs .rdStmTim1 4 (fun up t => { t with cap := up }) ∧
  TapReadsAs .rdStmTim2 8 (fun up t => { t with cap := up }) ∧
  TapReadsAs .rdStmTim3 12 (fun up t => { t with cap := up }) ∧
  TapReadsAs .rdStmTim4 16 (fun up t => { t with cap := up }) ∧
  TapReadsAs .rdStmTim5 20 (fun up t => { t with cap := up }) ∧
  TapReadsAs .rdStmTim6 32 (fun _ t => t) ∧
  TapReadsAs .rdStmTim0sv 0 (fun up t => { t with capsv := up })

/-- An aligned read of CLC, CMP0, CMP1, CMCON, OCS, KRSTCLR, KRST1, KRST0, ACCEN1 or ACCEN0, of any width, completes with the selected
lanes of the stored word and changes nothing. [R271, R291, R293, R295, R305, R307, R309, R311, R313, R315] -/
def Obligations.TimerStorageReads : Prop :=
  ReadsAs .rdStmClc (fun s => s.timer.clc) ∧ ReadsAs .rdStmCmp0 (fun s => s.timer.cmp0.word) ∧
  ReadsAs .rdStmCmp1 (fun s => s.timer.cmp1.word) ∧ ReadsAs .rdStmCmcon (fun s => s.timer.cmcon) ∧
  ReadsAs .rdStmOcs (fun s => s.timer.ocs) ∧ ReadsAs .rdStmKrstclr (fun s => s.timer.krstclr) ∧
  ReadsAs .rdStmKrst1 (fun s => s.timer.krst1) ∧ ReadsAs .rdStmKrst0 (fun s => s.timer.krst0) ∧
  ReadsAs .rdStmAccen1 (fun s => s.timer.accen1) ∧ ReadsAs .rdStmAccen0 (fun s => s.timer.accen0)

/-- An aligned read, of any width, completes and changes nothing: ID gives the parameter, CAP and CAPSV the captured words, ICR the
enables, requests and output selects at bits 0, 1, 2 and 4, 5, 6, ISCR 0. [R273, R289, R297, R299, R303] -/
def Obligations.TimerOtherReads : Prop :=
  ReadsAs .rdStmId (fun s => s.cfg.stmId) ∧ ReadsAs .rdStmCap (fun s => s.timer.cap) ∧ ReadsAs .rdStmCapsv (fun s => s.timer.capsv) ∧
  ReadsAs .rdStmIcr (fun s =>
    BitVec.ofNat 32 (s.timer.cmp0.en.toNat + s.timer.cmp0.ir.toNat * 2 + s.timer.cmp0.os.toNat * 4 + s.timer.cmp1.en.toNat * 16 +
      s.timer.cmp1.ir.toNat * 32 + s.timer.cmp1.os.toNat * 64)) ∧
  ReadsAs .rdStmIscr (fun _ => 0#32)

/-- An aligned write of CLC, CMCON, OCS, KRSTCLR, KRST1, KRST0, ACCEN1 or ACCEN0, of any width, completes, stores the merged word and
sends the timer's level; the counter, the alarm and every other register are as before. [R272, R296, R306, R308, R310, R312, R314,
R316] -/
def Obligations.TimerStorageWrites : Prop :=
  TimerWrites .wrStmClc (fun s => s.timer.clc) (fun v t => { t with clc := v }) ∧
  TimerWrites .wrStmCmcon (fun s => s.timer.cmcon) (fun v t => { t with cmcon := v }) ∧
  TimerWrites .wrStmOcs (fun s => s.timer.ocs) (fun v t => { t with ocs := v }) ∧
  TimerWrites .wrStmKrstclr (fun s => s.timer.krstclr) (fun v t => { t with krstclr := v }) ∧
  TimerWrites .wrStmKrst1 (fun s => s.timer.krst1) (fun v t => { t with krst1 := v }) ∧
  TimerWrites .wrStmKrst0 (fun s => s.timer.krst0) (fun v t => { t with krst0 := v }) ∧
  TimerWrites .wrStmAccen1 (fun s => s.timer.accen1) (fun v t => { t with accen1 := v }) ∧
  TimerWrites .wrStmAccen0 (fun s => s.timer.accen0) (fun v t => { t with accen0 := v })

/-- An aligned write of ID, TIM0 to TIM6, CAP, TIM0SV or CAPSV, of any width, completes, reports nothing, changes nothing of the timer
and sends its level. [R274, R276, R278, R280, R282, R284, R286, R288, R290, R302, R304] -/
def Obligations.TimerIgnoredWrites : Prop :=
  TimerWrites .wrStmId (fun _ => 0#32) (fun _ t => t) ∧ TimerWrites .wrStmTim0 (fun _ => 0#32) (fun _ t => t) ∧
  TimerWrites .wrStmTim1 (fun _ => 0#32) (fun _ t => t) ∧ TimerWrites .wrStmTim2 (fun _ => 0#32) (fun _ t => t) ∧
  TimerWrites .wrStmTim3 (fun _ => 0#32) (fun _ t => t) ∧ TimerWrites .wrStmTim4 (fun _ => 0#32) (fun _ t => t) ∧
  TimerWrites .wrStmTim5 (fun _ => 0#32) (fun _ t => t) ∧ TimerWrites .wrStmTim6 (fun _ => 0#32) (fun _ t => t) ∧
  TimerWrites .wrStmCap (fun _ => 0#32) (fun _ t => t) ∧ TimerWrites .wrStmTim0sv (fun _ => 0#32) (fun _ t => t) ∧
  TimerWrites .wrStmCapsv (fun _ => 0#32) (fun _ t => t)

/-- An aligned write of CMP0 or CMP1, of any width, completes: the compare value takes the merged word, and the one alarm becomes,
where the channel is enabled and the timer domain runs at f > 0, the channel's at now + ceil(d*10^9/f) with d the distance of the
compare value from TIM0 modulo 2^32, else none, whichever channel it served. The level is sent; nothing else changes. What the
arming of an enabled channel reports of its frequency query, all of it (R232, R400) or nothing (R317), is left open (log 26), and
an access that arms no enabled channel reports nothing. [R292, R294, R317, R318, R400] -/
def Obligations.CompareWritesArmOneAlarm : Prop :=
  ∀ s sz lane data, Aligned sz lane →
    let f := derivedClock s.cfg s.clock .timer
    (let v := mergeLanes s.timer.cmp0.word data lane sz
      ∃ t, exec (.wrStmCmp0 sz lane data) s = .next t ∧ t.result = .nothing ∧
        Reports s t (if s.timer.cmp0.en && Config.armingReports then derivedDiags s.clock .timer else []) ∧
        TimerChangedAndSent s t ∧
        t.timer = { s.timer with
          cmp0 := { s.timer.cmp0 with word := v }
          alarm := if s.timer.cmp0.en = true ∧ 0 < f then
              some { deadline := s.now + ((v - tap s 0).toNat * 10 ^ 9 + f - 1) / f, ch := .ch0 } else none }) ∧
    (let v := mergeLanes s.timer.cmp1.word data lane sz
      ∃ t, exec (.wrStmCmp1 sz lane data) s = .next t ∧ t.result = .nothing ∧
        Reports s t (if s.timer.cmp1.en && Config.armingReports then derivedDiags s.clock .timer else []) ∧
        TimerChangedAndSent s t ∧
        t.timer = { s.timer with
          cmp1 := { s.timer.cmp1 with word := v }
          alarm := if s.timer.cmp1.en = true ∧ 0 < f then
              some { deadline := s.now + ((v - tap s 0).toNat * 10 ^ 9 + f - 1) / f, ch := .ch1 } else none })

/-- An aligned ICR write, of any width, completes: with v the merged word, bits 0, 2, 4, 6 become en[0], os[0], en[1], os[1]; the
requests keep their values; the alarm is cancelled and then channel 0, if enabled, else channel 1, if enabled, is armed where the
timer domain runs. The level is sent; nothing else changes. What the arming of an enabled channel reports of its frequency query,
all of it (R232, R400) or nothing (R317), is left open (log 26), and an access that arms no enabled channel reports nothing.
[R298, R317, R318, R141, R400] -/
def Obligations.IcrWriteArmsTheLowestEnabledChannel : Prop :=
  ∀ s sz lane data, Aligned sz lane →
    let f := derivedClock s.cfg s.clock .timer
    let v := mergeLanes (icrRead s.timer) data lane sz
    ∃ t, exec (.wrStmIcr sz lane data) s = .next t ∧ t.result = .nothing ∧
      Reports s t (if (bit 0 v || bit 4 v) && Config.armingReports then derivedDiags s.clock .timer else []) ∧
      TimerChangedAndSent s t ∧
      t.timer = { s.timer with
        cmp0 := { s.timer.cmp0 with en := bit 0 v, os := bit 2 v }
        cmp1 := { s.timer.cmp1 with en := bit 4 v, os := bit 6 v }
        alarm := if f = 0 then none
          else if bit 0 v then some { deadline := s.now + ((s.timer.cmp0.word - tap s 0).toNat * 10 ^ 9 + f - 1) / f, ch := .ch0 }
          else if bit 4 v then some { deadline := s.now + ((s.timer.cmp1.word - tap s 0).toNat * 10 ^ 9 + f - 1) / f, ch := .ch1 }
          else none }

/-- An aligned ISCR write, of any width, completes: with v the data merged with 0, v[0] clears and then v[1] sets ir[0], v[2] clears
and then v[3] sets ir[1], whatever the enables. The alarm is as before and the level is sent. [R300] -/
def Obligations.IscrWriteClearsThenSetsRequests : Prop :=
  TimerWrites .wrStmIscr (fun _ => 0#32) (fun v t =>
    { t with
      cmp0 := { t.cmp0 with ir := if bit 1 v then true else if bit 0 v then false else t.cmp0.ir }
      cmp1 := { t.cmp1 with ir := if bit 3 v then true else if bit 2 v then false else t.cmp1.ir } })

/-- ALARM completes where an alarm is armed and due: the alarm is gone, the channel's request is set if the channel is enabled and
otherwise as before, the level is sent, and nothing else changes. Without an alarm, or before its deadline, ALARM is refused.
[R319] -/
def Obligations.AlarmFiresOnceAtOrAfterItsDeadline : Prop :=
  (∀ s a, s.timer.alarm = some a → a.deadline ≤ s.now →
    ∃ t, exec .evAlarm s = .next t ∧ t.result = .nothing ∧ t.diag = s.diag ∧ TimerChangedAndSent s t ∧
      (a.ch = .ch0 → t.timer = { s.timer with alarm := none, cmp0 := { s.timer.cmp0 with ir := s.timer.cmp0.ir || s.timer.cmp0.en } }) ∧
      (a.ch = .ch1 → t.timer = { s.timer with alarm := none, cmp1 := { s.timer.cmp1 with ir := s.timer.cmp1.ir || s.timer.cmp1.en } })) ∧
  (∀ s, s.timer.alarm = none → exec .evAlarm s = .refused .alarmNotArmed) ∧
  (∀ s a, s.timer.alarm = some a → s.now < a.deadline → exec .evAlarm s = .refused .alarmNotDue)

/-- With the timer domain running at F: after a write of CMP0 or CMP1, of any width, that makes the compare value of an enabled
channel TIM0 + N, and after an ICR write that enables channel 0, or channel 1 and not channel 0, whose compare value is TIM0 + N,
the alarm is that channel's and its deadline dl satisfies N*10^9 <= (dl - now)*F < N*10^9 + F; and at the deadline the unwrapped
counter has advanced by at least N. [R322, R317, R270, R292, R294, R298] -/
def Obligations.ArmedDeadlineIsTheMatchWithinOneNanosecond : Prop :=
  ∀ s t n sz lane data, s.timer.t0 ≤ s.now → n < 2 ^ 32 → 0 < timerFrequency s →
    (s.timer.cmp0.en = true → mergeLanes s.timer.cmp0.word data lane sz = tap s 0 + BitVec.ofNat 32 n →
      exec (.wrStmCmp0 sz lane data) s = .next t → DeadlineMatches s t .ch0 n) ∧
    (s.timer.cmp1.en = true → mergeLanes s.timer.cmp1.word data lane sz = tap s 0 + BitVec.ofNat 32 n →
      exec (.wrStmCmp1 sz lane data) s = .next t → DeadlineMatches s t .ch1 n) ∧
    (let v := mergeLanes (icrRead s.timer) data lane sz;
      exec (.wrStmIcr sz lane data) s = .next t →
        (bit 0 v = true → s.timer.cmp0.word = tap s 0 + BitVec.ofNat 32 n → DeadlineMatches s t .ch0 n) ∧
        (bit 0 v = false → bit 4 v = true → s.timer.cmp1.word = tap s 0 + BitVec.ofNat 32 n → DeadlineMatches s t .ch1 n))

/-- An aligned read of CLC, IOCR, BITCON, FRAMECON, DATCON, BRG, BRD, LINCON, LINBTIMER or LINHTIMER, of any width, completes with the
selected lanes of the stored word, changes nothing of the UART, and sends the three levels. [R333, R335, R343, R345, R347, R349,
R351, R353, R355, R357] -/
def Obligations.UartLineRegisterReads : Prop :=
  UartReadsAs .rdUartClc (fun s => s.uart.clc) id ∧
  UartReadsAs .rdUartIocr (fun s => s.uart.iocr) id ∧
  UartReadsAs .rdUartBitcon (fun s => s.uart.bitcon) id ∧
  UartReadsAs .rdUartFramecon (fun s => s.uart.framecon) id ∧
  UartReadsAs .rdUartDatcon (fun s => s.uart.datcon) id ∧
  UartReadsAs .rdUartBrg (fun s => s.uart.brg) id ∧
  UartReadsAs .rdUartBrd (fun s => s.uart.brd) id ∧
  UartReadsAs .rdUartLincon (fun s => s.uart.lincon) id ∧
  UartReadsAs .rdUartLinbtimer (fun s => s.uart.linbtimer) id ∧
  UartReadsAs .rdUartLinhtimer (fun s => s.uart.linhtimer) id

/-- An aligned read of TXFIFOCON, RXFIFOCON, FLAGSENABLE, CSR, OCS, KRSTCLR, KRST1, KRST0, ACCEN1 or ACCEN0, of any width, completes
with the selected lanes of the stored word, changes nothing of the UART, and sends the three levels. [R339, R341, R365, R371,
R375, R377, R379, R381, R383, R385] -/
def Obligations.UartControlRegisterReads : Prop :=
  UartReadsAs .rdUartTxfifocon (fun s => s.uart.txfifocon) id ∧
  UartReadsAs .rdUartRxfifocon (fun s => s.uart.rxfifocon) id ∧
  UartReadsAs .rdUartFlagsenable (fun s => s.uart.flagsenable) id ∧
  UartReadsAs .rdUartCsr (fun s => s.uart.csr) id ∧
  UartReadsAs .rdUartOcs (fun s => s.uart.ocs) id ∧
  UartReadsAs .rdUartKrstclr (fun s => s.uart.krstclr) id ∧
  UartReadsAs .rdUartKrst1 (fun s => s.uart.krst1) id ∧
  UartReadsAs .rdUartKrst0 (fun s => s.uart.krst0) id ∧
  UartReadsAs .rdUartAccen1 (fun s => s.uart.accen1) id ∧
  UartReadsAs .rdUartAccen0 (fun s => s.uart.accen0) id

/-- An aligned read, of any width, completes, changes nothing of the UART and sends the three levels: ID gives the parameter; FLAGS
the stored flags with RFL iff the cursors differ and TFL 1; FLAGSSET, FLAGSCLEAR and TXDATA 0; RXDATAD the byte at the read
cursor. [R331, R337, R359, R361, R363, R367, R373] -/
def Obligations.UartComputedReads : Prop :=
  UartReadsAs .rdUartId (fun s => s.cfg.uartId) id ∧
  UartReadsAs .rdUartFlags (fun s =>
    (s.uart.flags &&& 0x4FFFE06F#32) ||| (if s.uart.rd = s.uart.wr then 0#32 else 0x10000000#32) ||| 0x80000000#32) id ∧
  UartReadsAs .rdUartFlagsset (fun _ => 0#32) id ∧
  UartReadsAs .rdUartFlagsclear (fun _ => 0#32) id ∧
  UartReadsAs .rdUartTxdata (fun _ => 0#32) id ∧
  UartReadsAs .rdUartRxdatad (fun s => (ringByte s.uart s.uart.rd).setWidth 32) id

/-- An aligned write of CLC, IOCR, BITCON, FRAMECON, DATCON, BRG, BRD, LINCON, LINBTIMER or LINHTIMER, of any width, completes, stores
the merged word and sends the three levels; every other register, the ring and the transmit slot are as before. [R334, R336, R344,
R346, R348, R350, R352, R354, R356, R358] -/
def Obligations.UartLineRegisterWrites : Prop :=
  UartWrites .wrUartClc (fun s => s.uart.clc) (fun v u => { u with clc := v }) ∧
  UartWrites .wrUartIocr (fun s => s.uart.iocr) (fun v u => { u with iocr := v }) ∧
  UartWrites .wrUartBitcon (fun s => s.uart.bitcon) (fun v u => { u with bitcon := v }) ∧
  UartWrites .wrUartFramecon (fun s => s.uart.framecon) (fun v u => { u with framecon := v }) ∧
  UartWrites .wrUartDatcon (fun s => s.uart.datcon) (fun v u => { u with datcon := v }) ∧
  UartWrites .wrUartBrg (fun s => s.uart.brg) (fun v u => { u with brg := v }) ∧
  UartWrites .wrUartBrd (fun s => s.uart.brd) (fun v u => { u with brd := v }) ∧
  UartWrites .wrUartLincon (fun s => s.uart.lincon) (fun v u => { u with lincon := v }) ∧
  UartWrites .wrUartLinbtimer (fun s => s.uart.linbtimer) (fun v u => { u with linbtimer := v }) ∧
  UartWrites .wrUartLinhtimer (fun s => s.uart.linhtimer) (fun v u => { u with linhtimer := v })

/-- An aligned write of FLAGSENABLE, CSR, OCS, KRSTCLR, KRST1, KRST0, ACCEN1 or ACCEN0, of any width, completes and stores the merged
word, TXFIFOCON all of it but bit 0, whose FLUSH discards nothing; the three levels are sent with the new mask; nothing else
changes. [R340, R366, R372, R376, R378, R380, R382, R384, R386] -/
def Obligations.UartControlRegisterWrites : Prop :=
  UartWrites .wrUartFlagsenable (fun s => s.uart.flagsenable) (fun v u => { u with flagsenable := v }) ∧
  UartWrites .wrUartCsr (fun s => s.uart.csr) (fun v u => { u with csr := v }) ∧
  UartWrites .wrUartOcs (fun s => s.uart.ocs) (fun v u => { u with ocs := v }) ∧
  UartWrites .wrUartKrstclr (fun s => s.uart.krstclr) (fun v u => { u with krstclr := v }) ∧
  UartWrites .wrUartKrst1 (fun s => s.uart.krst1) (fun v u => { u with krst1 := v }) ∧
  UartWrites .wrUartKrst0 (fun s => s.uart.krst0) (fun v u => { u with krst0 := v }) ∧
  UartWrites .wrUartAccen1 (fun s => s.uart.accen1) (fun v u => { u with accen1 := v }) ∧
  UartWrites .wrUartAccen0 (fun s => s.uart.accen0) (fun v u => { u with accen0 := v }) ∧
  UartWrites .wrUartTxfifocon (fun s => s.uart.txfifocon) (fun v u => { u with txfifocon := v &&& ~~~1#32 })

/-- An aligned write, of any width, completes and sends the three levels: FLAGSSET ors into the stored flags the merged word's stored-
flag bits, FLAGSCLEAR clears those flags, no other bit of either having an effect; writes of ID, FLAGS, RXDATA and RXDATAD change
nothing of the UART. [R362, R364, R338, R370, R374] -/
def Obligations.UartFlagCommandsAndIgnoredWrites : Prop :=
  UartWrites .wrUartFlagsset (fun _ => 0#32) (fun v u => { u with flags := u.flags ||| (v &&& 0x4FFFE06F#32) }) ∧
  UartWrites .wrUartFlagsclear (fun _ => 0#32) (fun v u => { u with flags := u.flags &&& ~~~(v &&& 0x4FFFE06F#32) }) ∧
  UartWrites .wrUartId (fun _ => 0#32) (fun _ u => u) ∧
  UartWrites .wrUartFlags (fun _ => 0#32) (fun _ u => u) ∧
  UartWrites .wrUartRxdata (fun _ => 0#32) (fun _ u => u) ∧
  UartWrites .wrUartRxdatad (fun _ => 0#32) (fun _ u => u)

/-- An aligned RXFIFOCON write, of any width, completes: with v the merged word, FLUSH moves the read cursor to the write cursor and
clears RFO and RFU, leaving the ring's contents; v without bit 0 is stored; with ENI and a transport one acceptInput is emitted.
The levels are sent; nothing else changes. [R342] -/
def Obligations.RxfifoconWriteFlushesAndRequestsResume : Prop :=
  ∀ s sz lane data, Aligned sz lane →
    let v := mergeLanes s.uart.rxfifocon data lane sz
    ∃ t, exec (.wrUartRxfifocon sz lane data) s = .next t ∧ t.result = .nothing ∧ t.diag = s.diag ∧ UartChangedAndSent s t ∧
      t.uart = { s.uart with
        rxfifocon := v &&& ~~~1#32
        rd := if bit 0 v then s.uart.wr else s.uart.rd
        flags := if bit 0 v then s.uart.flags &&& ~~~0x0C000000#32 else s.uart.flags } ∧
      t.emitted = s.emitted ++ (if bit 1 v = true ∧ s.cfg.transportPresent = true then [.acceptInput] else [])

/-- An aligned TXDATA write, of any width, completes. The item is the low byte of the data merged with 0. Without a transport TC is
set; while a retry is armed the item replaces the pending one under the overwrite policy and is lost under the drop policy; else
its bytes go to the transport once, and it is delivered with TC set or pending with the retry armed. The levels are sent; nothing
else changes. A block's bytes are those of guest memory from its address on; that its addresses do not wrap at 2^32 is the model's
choice (log 11). [R368, R387, R81] -/
def Obligations.TxdataWriteDispatchesTheByte : Prop :=
  (∀ s sz lane data ans, Aligned sz lane →
    ∃ t, exec (.wrUartTxdata sz lane data ans) s = .next t ∧ t.result = .nothing ∧ t.diag = s.diag ∧ UartChangedAndSent s t ∧
      Dispatched (.byte ((mergeLanes 0#32 data lane sz).extractLsb' 0 8)) ans s.uart s t) ∧
  (∀ g b, itemBytes g (.byte b) = [b]) ∧
  (∀ g len addr, (itemBytes g (.block len addr)).length = len.toNat ∧
    ∀ k, k < len.toNat → (itemBytes g (.block len addr))[k]? = some (Memory.read g (addr.toNat + k)))

/-- An aligned RXDATA read, of any width, completes with the selected lanes of the byte at the read cursor, zero-extended; the cursor
advances by one modulo 8192 if the ring is not empty, and stays, the stale byte returned and no flag set, if it is. The levels are
sent; nothing else changes. [R369] -/
def Obligations.RxdataReadTakesTheOldestByte : Prop :=
  UartReadsAs .rdUartRxdata (fun s => (ringByte s.uart s.uart.rd).setWidth 32)
    (fun u => { u with rd := if u.rd = u.wr then u.rd else Fin.ofNat 8192 (u.rd.val + 1) })

/-- Where there is a transport RX completes, whatever ENI holds: the first bytes of the burst, as many as there is free capacity, go
into the slots from the write cursor on, which moves past them; every other slot is as before; if any byte was dropped exactly one
ReceiveOverflow with their number is reported, else nothing. The levels are sent; nothing else changes. Without a transport RX is
refused. [R389] -/
def Obligations.RxBurstFillsTheRingAndDropsTheRest : Prop :=
  (∀ s bytes, s.cfg.transportPresent = true →
    let n := min bytes.length (8191 - ((s.uart.wr.val + 8192 - s.uart.rd.val) % 8192))
    ∃ t, exec (.evRx bytes) s = .next t ∧ t.result = .nothing ∧ t.emitted = s.emitted ∧ UartChangedAndSent s t ∧
      t.uart = { s.uart with ring := t.uart.ring, wr := Fin.ofNat 8192 (s.uart.wr.val + n) } ∧
      (∀ k, k < n → bytes[k]? = some (ringByte t.uart (Fin.ofNat 8192 (s.uart.wr.val + k)))) ∧
      (∀ j, (∀ k, k < n → j ≠ Fin.ofNat 8192 (s.uart.wr.val + k)) → ringByte t.uart j = ringByte s.uart j) ∧
      t.diag = s.diag ++ (if n < bytes.length then [[.receiveOverflow (bytes.length - n)]] else [])) ∧
  (∀ s bytes, s.cfg.transportPresent = false → exec (.evRx bytes) s = .refused .noTransport)

/-- A burst appends to the buffered bytes exactly the prefix that fits the free capacity, so a burst that fits raises the count by its
length and a longer one leaves the ring full with one overflow event; an RXDATA read of a non-empty ring, of any width, returns
the selected lanes of the oldest buffered byte and leaves the others in order. canReceive is true iff ENI is set and there is free
capacity. [R394, R390] -/
def Obligations.ReceiveRingIsAFifo : Prop :=
  (∀ s t bytes, exec (.evRx bytes) s = .next t →
    buffered t.uart = buffered s.uart ++ bytes.take (ringFree s.uart) ∧
    (bytes.length ≤ ringFree s.uart → ringUsed t.uart = ringUsed s.uart + bytes.length ∧ t.diag = s.diag) ∧
    (ringFree s.uart < bytes.length → ringUsed t.uart = 8191 ∧
      t.diag = s.diag ++ [[.receiveOverflow (bytes.length - ringFree s.uart)]])) ∧
  (∀ s t b rest sz lane, buffered s.uart = b :: rest → exec (.rdUartRxdata sz lane) s = .next t →
    t.result = .data (selectLanes (b.setWidth 32) lane sz) ∧ buffered t.uart = rest) ∧
  (∀ u, (buffered u).length = ringUsed u) ∧
  (∀ u, canReceive u = true ↔ bit 1 u.rxfifocon = true ∧ 0 < ringFree u)

/-- WRITABLE completes where there is a transport, a retry is armed and an item is pending: one delivery attempt of that item is made,
which delivers it with TC set and disarms the retry, or keeps it and arms the retry again. The levels are sent; nothing else
changes. Otherwise it is refused. [R388] -/
def Obligations.WritableOffersThePendingItemAgain : Prop :=
  (∀ s ans item, s.cfg.transportPresent = true → s.uart.retryArmed = true → s.uart.txPend = some item →
    ∃ t, exec (.evWritable ans) s = .next t ∧ t.result = .nothing ∧ t.diag = s.diag ∧ UartChangedAndSent s t ∧
      Delivered item ans { s.uart with retryArmed := false } s t) ∧
  (∀ s ans, (s.cfg.transportPresent = false ∨ s.uart.retryArmed = false ∨ s.uart.txPend = none) →
    ∃ r, exec (.evWritable ans) s = .refused r)

/-- Where the platform has the pair, an admitted access at its offsets completes: reads give blkAddr and blkLen, an address write
stores the merged word, a length write stores it and, if it is positive, dispatches the block of that length at blkAddr as a
TXDATA write dispatches its byte. The levels are sent; nothing else changes and nothing is reported. That an access to the pair is
one to declared registers, reached through the table's undeclared rows, is the model's reading (log 25). [R392, R393, R391, R84] -/
def Obligations.BlockTransferPair : Prop :=
  ∀ s sz off data ans, s.cfg.wf → s.cfg.blkPresent = true → Admitted s.cfg .uart off sz →
    (wordOffset off = s.cfg.blkAddrOff →
      (∃ t, exec (.rdUartUndeclared sz off) s = .next t ∧ t.result = .data (selectLanes s.uart.blkAddr (laneOf off) sz) ∧
        t.uart = s.uart ∧ t.emitted = s.emitted ∧ t.diag = s.diag ∧ UartChangedAndSent s t) ∧
      (∃ t, exec (.wrUartUndeclared sz off data ans) s = .next t ∧ t.result = .nothing ∧
        t.uart = { s.uart with blkAddr := mergeLanes s.uart.blkAddr data (laneOf off) sz } ∧ t.emitted = s.emitted ∧ t.diag = s.diag ∧
        UartChangedAndSent s t)) ∧
    (wordOffset off = s.cfg.blkLenOff →
      (∃ t, exec (.rdUartUndeclared sz off) s = .next t ∧ t.result = .data (selectLanes s.uart.blkLen (laneOf off) sz) ∧
        t.uart = s.uart ∧ t.emitted = s.emitted ∧ t.diag = s.diag ∧ UartChangedAndSent s t) ∧
      (let v := mergeLanes s.uart.blkLen data (laneOf off) sz
        ∃ t, exec (.wrUartUndeclared sz off data ans) s = .next t ∧ t.result = .nothing ∧ t.diag = s.diag ∧ UartChangedAndSent s t ∧
          (v = 0#32 → t.uart = { s.uart with blkLen := v } ∧ t.emitted = s.emitted) ∧
          (v ≠ 0#32 → Dispatched (.block v s.uart.blkAddr) ans { s.uart with blkLen := v } s t)))

/-- SNAPSHOT completes with the whole architectural state. RESTORE of a blob of the form a snapshot has completes: clock unit, timer
with its alarm, time and UART are the blob's, the retry armed as well where an item is pending; the router has the blob's sources,
evaluated from the blob's output; the trace and what lies outside the block are as before. So restoring a snapshot taken in a
state that holds the two invariants gives its architectural state back. That every blob of that form is taken, one that no
SNAPSHOT returned too, and what RESTORE leaves alone, is the model's reading (logs 13, 14). [R472, R473,
93_implementation_defined.md U24] -/
def Obligations.SnapshotAndRestore : Prop :=
  (∀ s, exec .evSnapshot s = .next { s with result := .blob s.toBlock }) ∧
  (∀ s b, b.snapshotForm s.cfg = true →
    ∃ t, exec (.evRestore b) s = .next t ∧ t.result = .nothing ∧ t.clock = b.clock ∧ t.timer = b.timer ∧ t.now = b.now ∧
      t.uart = { b.uart with retryArmed := b.uart.retryArmed || b.uart.txPend.isSome } ∧
      (∀ j, t.router.source j = b.router.source j) ∧ RouterOutputAgrees t ∧
      ((∀ j, ¬ SourceQualifies t j) → t.router.cpuPrio = b.router.cpuPrio) ∧
      t.diag = s.diag ∧ t.emitted = s.emitted ∧ t.cfg = s.cfg ∧ t.input = s.input ∧ t.guest = s.guest) ∧
  (∀ s s' t, s'.cfg = s.cfg → StoredFormHolds s → RouterOutputAgrees s →
    exec (.evRestore s.toBlock) s' = .next t → t.toBlock = s.toBlock)

/-- If an operation completes and a stored flag of the UART became 1, the operation is a FLAGSSET write, or the flag is TC and the
operation can complete a transmission, or it is RESTORE. If one became 0, the operation is a FLAGSCLEAR write, or the flag is RFO
or RFU and the operation an RXFIFOCON write, or it is a reset of the UART or RESTORE. [R360, R40, R362, R364, R368, R387, R388,
R342, R455, R473] -/
def Obligations.FlagsChangeOnlyThroughTheirWriters : Prop :=
  ∀ i s t k, exec i s = .next t →
    (bit k s.uart.flags = false → bit k t.uart.flags = true →
      (∃ sz lane data, i = .wrUartFlagsset sz lane data) ∨ (k = 17 ∧ CanCompleteATransmission i s) ∨ ∃ b, i = .evRestore b) ∧
    (bit k s.uart.flags = true → bit k t.uart.flags = false →
      (∃ sz lane data, i = .wrUartFlagsclear sz lane data) ∨
      ((k = 26 ∨ k = 27) ∧ ∃ sz lane data, i = .wrUartRxfifocon sz lane data) ∨
      i = .evReset .uart ∨ i = .evResetAll ∨ ∃ b, i = .evRestore b)
end

