-- ==== Sys2Proof/Laws/Operands.lean ====
section
/-! SUPPORT. What admission and the access algorithm can do (R82 to R88), and the byte lanes. -/

namespace Sys2Proof.Machine

theorem admission_eq_none_iff (win off : Nat) (sz : Size) :
    admission win off sz = none ↔ off % sizeBytes sz = 0 ∧ off + sizeBytes sz ≤ win := by
  unfold admission
  split <;> simp_all

theorem admission_cases (win off : Nat) (sz : Size) :
    admission win off sz = none ∨ admission win off sz = some .misaligned ∨ admission win off sz = some .outsideWindow := by
  unfold admission
  split
  · simp
  · split <;> simp

/-- An aligned access to a declared word of a window is admitted. -/
theorem admission_declared (win w : Nat) (sz : Size) (lane : Lane) (hw : w % 4 = 0) (hwin : w + 4 ≤ win)
    (h : lane.val % sizeBytes sz = 0) : admission win (w + lane.val) sz = none := by
  have hl := lane.isLt
  rw [admission_eq_none_iff]
  cases sz <;> simp only [sizeBytes] at h ⊢ <;> omega

/-- Everything an access can do: the body in one step where R82 admits it, else a refusal. -/
theorem access_cases (u : UnitId) (off : Nat) (sz : Size) (body : State → State) (s : State) :
    (admission (windowSize s.cfg u) off sz = none ∧ access u off sz body s = .next (body s)) ∨
      access u off sz body s = .refused .misaligned ∨ access u off sz body s = .refused .outsideWindow := by
  rcases admission_cases (windowSize s.cfg u) off sz with h | h | h <;> simp [access, h]

/-- An admitted access takes its body in one step. -/
theorem access_admitted (u : UnitId) (off : Nat) (sz : Size) (body : State → State) (s : State)
    (h : admission (windowSize s.cfg u) off sz = none) : access u off sz body s = .next (body s) := by
  simp [access, h]

theorem access_eq_next (u : UnitId) (off : Nat) (sz : Size) (body : State → State) (s t : State)
    (h : access u off sz body s = .next t) : t = body s := by
  rcases access_cases u off sz body s with ⟨_, e⟩ | e | e <;> rw [e] at h <;> cases h
  rfl

theorem readReg_eq_next {u : UnitId} {w : Nat} {sz : Size} {lane : Lane} {cur : State → Word} {effect : State → State} {s t : State}
    (h : readReg u w sz lane cur effect s = .next t) :
    t = afterAccess u .read ((effect s).returning (.data (selectLanes (cur s) lane sz))) := by
  unfold readReg at h
  have e := access_eq_next _ _ _ _ _ _ h
  exact e

theorem writeReg_eq_next {u : UnitId} {w : Nat} {sz : Size} {lane : Lane} {data : Word} {cur : State → Word}
    {effect : Word → State → State} {s t : State} (h : writeReg u w sz lane data cur effect s = .next t) :
    t = afterAccess u .write ((effect (mergeLanes (cur s) data lane sz) s).returning .nothing) := by
  unfold writeReg at h
  have e := access_eq_next _ _ _ _ _ _ h
  exact e

theorem readUndeclared_eq_next {u : UnitId} {sz : Size} {off : Offset} {s t : State} (h : readUndeclared u sz off s = .next t) :
    t = afterAccess u .read ((s.report [.unknownRegister u off .read]).returning (.data 0#32)) := by
  unfold readUndeclared at h
  have e := access_eq_next _ _ _ _ _ _ h
  exact e

theorem writeUndeclared_eq_next {u : UnitId} {sz : Size} {off : Offset} {s t : State} (h : writeUndeclared u sz off s = .next t) :
    t = afterAccess u .write ((s.report [.unknownRegister u off .write]).returning .nothing) := by
  unfold writeUndeclared at h
  have e := access_eq_next _ _ _ _ _ _ h
  exact e

/-- The read of a declared word completes exactly where R82 admits it. -/
theorem readReg_admitted {u : UnitId} {w : Nat} {sz : Size} {lane : Lane} (cur : State → Word) (effect : State → State) {s : State}
    (h : admission (windowSize s.cfg u) (w + lane.val) sz = none) :
    readReg u w sz lane cur effect s =
      .next (afterAccess u .read ((effect s).returning (.data (selectLanes (cur s) lane sz)))) := by
  unfold readReg
  rw [access_admitted _ _ _ _ _ h]

/-- The write of a declared word completes exactly where R82 admits it. -/
theorem writeReg_admitted {u : UnitId} {w : Nat} {sz : Size} {lane : Lane} (data : Word) (cur : State → Word)
    (effect : Word → State → State) {s : State} (h : admission (windowSize s.cfg u) (w + lane.val) sz = none) :
    writeReg u w sz lane data cur effect s =
      .next (afterAccess u .write ((effect (mergeLanes (cur s) data lane sz) s).returning .nothing)) := by
  unfold writeReg
  rw [access_admitted _ _ _ _ _ h]

/-- No access faults. -/
theorem access_ne_fault (u : UnitId) (off : Nat) (sz : Size) (body : State → State) (s : State) (f : Fault) :
    access u off sz body s ≠ .fault f := by
  rcases access_cases u off sz body s with ⟨_, e⟩ | e | e <;> rw [e] <;> simp

end Sys2Proof.Machine
end

