-- ==== Sys2Proof/Laws/State.lean ====
section
/-! SUPPORT. One lemma per field per update of the state, each true by unfolding the update once, so that no later proof unfolds a
record update. -/

namespace Sys2Proof.Machine

variable (s : State)

@[simp] theorem State.onRouter_router (f : Router → Router) : (s.onRouter f).router = f s.router := rfl
@[simp] theorem State.onRouter_clock (f : Router → Router) : (s.onRouter f).clock = s.clock := rfl
@[simp] theorem State.onRouter_timer (f : Router → Router) : (s.onRouter f).timer = s.timer := rfl
@[simp] theorem State.onRouter_uart (f : Router → Router) : (s.onRouter f).uart = s.uart := rfl
@[simp] theorem State.onRouter_now (f : Router → Router) : (s.onRouter f).now = s.now := rfl
@[simp] theorem State.onRouter_cfg (f : Router → Router) : (s.onRouter f).cfg = s.cfg := rfl
@[simp] theorem State.onRouter_diag (f : Router → Router) : (s.onRouter f).diag = s.diag := rfl
@[simp] theorem State.onRouter_emitted (f : Router → Router) : (s.onRouter f).emitted = s.emitted := rfl
@[simp] theorem State.onRouter_result (f : Router → Router) : (s.onRouter f).result = s.result := rfl
@[simp] theorem State.onRouter_guest (f : Router → Router) : (s.onRouter f).guest = s.guest := rfl
@[simp] theorem State.onRouter_input (f : Router → Router) : (s.onRouter f).input = s.input := rfl

@[simp] theorem State.onClock_router (f : Clock → Clock) : (s.onClock f).router = s.router := rfl
@[simp] theorem State.onClock_clock (f : Clock → Clock) : (s.onClock f).clock = f s.clock := rfl
@[simp] theorem State.onClock_timer (f : Clock → Clock) : (s.onClock f).timer = s.timer := rfl
@[simp] theorem State.onClock_uart (f : Clock → Clock) : (s.onClock f).uart = s.uart := rfl
@[simp] theorem State.onClock_now (f : Clock → Clock) : (s.onClock f).now = s.now := rfl
@[simp] theorem State.onClock_cfg (f : Clock → Clock) : (s.onClock f).cfg = s.cfg := rfl
@[simp] theorem State.onClock_diag (f : Clock → Clock) : (s.onClock f).diag = s.diag := rfl
@[simp] theorem State.onClock_emitted (f : Clock → Clock) : (s.onClock f).emitted = s.emitted := rfl
@[simp] theorem State.onClock_result (f : Clock → Clock) : (s.onClock f).result = s.result := rfl
@[simp] theorem State.onClock_guest (f : Clock → Clock) : (s.onClock f).guest = s.guest := rfl
@[simp] theorem State.onClock_input (f : Clock → Clock) : (s.onClock f).input = s.input := rfl

@[simp] theorem State.onTimer_router (f : Timer → Timer) : (s.onTimer f).router = s.router := rfl
@[simp] theorem State.onTimer_clock (f : Timer → Timer) : (s.onTimer f).clock = s.clock := rfl
@[simp] theorem State.onTimer_timer (f : Timer → Timer) : (s.onTimer f).timer = f s.timer := rfl
@[simp] theorem State.onTimer_uart (f : Timer → Timer) : (s.onTimer f).uart = s.uart := rfl
@[simp] theorem State.onTimer_now (f : Timer → Timer) : (s.onTimer f).now = s.now := rfl
@[simp] theorem State.onTimer_cfg (f : Timer → Timer) : (s.onTimer f).cfg = s.cfg := rfl
@[simp] theorem State.onTimer_diag (f : Timer → Timer) : (s.onTimer f).diag = s.diag := rfl
@[simp] theorem State.onTimer_emitted (f : Timer → Timer) : (s.onTimer f).emitted = s.emitted := rfl
@[simp] theorem State.onTimer_result (f : Timer → Timer) : (s.onTimer f).result = s.result := rfl
@[simp] theorem State.onTimer_guest (f : Timer → Timer) : (s.onTimer f).guest = s.guest := rfl
@[simp] theorem State.onTimer_input (f : Timer → Timer) : (s.onTimer f).input = s.input := rfl

@[simp] theorem State.onUart_router (f : Uart → Uart) : (s.onUart f).router = s.router := rfl
@[simp] theorem State.onUart_clock (f : Uart → Uart) : (s.onUart f).clock = s.clock := rfl
@[simp] theorem State.onUart_timer (f : Uart → Uart) : (s.onUart f).timer = s.timer := rfl
@[simp] theorem State.onUart_uart (f : Uart → Uart) : (s.onUart f).uart = f s.uart := rfl
@[simp] theorem State.onUart_now (f : Uart → Uart) : (s.onUart f).now = s.now := rfl
@[simp] theorem State.onUart_cfg (f : Uart → Uart) : (s.onUart f).cfg = s.cfg := rfl
@[simp] theorem State.onUart_diag (f : Uart → Uart) : (s.onUart f).diag = s.diag := rfl
@[simp] theorem State.onUart_emitted (f : Uart → Uart) : (s.onUart f).emitted = s.emitted := rfl
@[simp] theorem State.onUart_result (f : Uart → Uart) : (s.onUart f).result = s.result := rfl
@[simp] theorem State.onUart_guest (f : Uart → Uart) : (s.onUart f).guest = s.guest := rfl
@[simp] theorem State.onUart_input (f : Uart → Uart) : (s.onUart f).input = s.input := rfl

@[simp] theorem State.returning_router (r : Result) : (s.returning r).router = s.router := rfl
@[simp] theorem State.returning_clock (r : Result) : (s.returning r).clock = s.clock := rfl
@[simp] theorem State.returning_timer (r : Result) : (s.returning r).timer = s.timer := rfl
@[simp] theorem State.returning_uart (r : Result) : (s.returning r).uart = s.uart := rfl
@[simp] theorem State.returning_now (r : Result) : (s.returning r).now = s.now := rfl
@[simp] theorem State.returning_cfg (r : Result) : (s.returning r).cfg = s.cfg := rfl
@[simp] theorem State.returning_diag (r : Result) : (s.returning r).diag = s.diag := rfl
@[simp] theorem State.returning_emitted (r : Result) : (s.returning r).emitted = s.emitted := rfl
@[simp] theorem State.returning_result (r : Result) : (s.returning r).result = r := rfl
@[simp] theorem State.returning_guest (r : Result) : (s.returning r).guest = s.guest := rfl
@[simp] theorem State.returning_input (r : Result) : (s.returning r).input = s.input := rfl

@[simp] theorem State.emit_router (e : Emission) : (s.emit e).router = s.router := rfl
@[simp] theorem State.emit_clock (e : Emission) : (s.emit e).clock = s.clock := rfl
@[simp] theorem State.emit_timer (e : Emission) : (s.emit e).timer = s.timer := rfl
@[simp] theorem State.emit_uart (e : Emission) : (s.emit e).uart = s.uart := rfl
@[simp] theorem State.emit_now (e : Emission) : (s.emit e).now = s.now := rfl
@[simp] theorem State.emit_cfg (e : Emission) : (s.emit e).cfg = s.cfg := rfl
@[simp] theorem State.emit_diag (e : Emission) : (s.emit e).diag = s.diag := rfl
@[simp] theorem State.emit_emitted (e : Emission) : (s.emit e).emitted = s.emitted ++ [e] := rfl
@[simp] theorem State.emit_result (e : Emission) : (s.emit e).result = s.result := rfl
@[simp] theorem State.emit_guest (e : Emission) : (s.emit e).guest = s.guest := rfl
@[simp] theorem State.emit_input (e : Emission) : (s.emit e).input = s.input := rfl

@[simp] theorem State.report_router (ds : List Diag) : (s.report ds).router = s.router := rfl
@[simp] theorem State.report_clock (ds : List Diag) : (s.report ds).clock = s.clock := rfl
@[simp] theorem State.report_timer (ds : List Diag) : (s.report ds).timer = s.timer := rfl
@[simp] theorem State.report_uart (ds : List Diag) : (s.report ds).uart = s.uart := rfl
@[simp] theorem State.report_now (ds : List Diag) : (s.report ds).now = s.now := rfl
@[simp] theorem State.report_cfg (ds : List Diag) : (s.report ds).cfg = s.cfg := rfl
theorem State.report_diag (ds : List Diag) :
    (s.report ds).diag = if ds = [] then s.diag else s.diag ++ [ds] := by
  cases ds <;> simp [State.report]
@[simp] theorem State.report_emitted (ds : List Diag) : (s.report ds).emitted = s.emitted := rfl
@[simp] theorem State.report_result (ds : List Diag) : (s.report ds).result = s.result := rfl
@[simp] theorem State.report_guest (ds : List Diag) : (s.report ds).guest = s.guest := rfl
@[simp] theorem State.report_input (ds : List Diag) : (s.report ds).input = s.input := rfl

@[simp] theorem evaluate_router : (evaluate s).router = arbitrate s.cfg s.router := rfl
@[simp] theorem evaluate_clock : (evaluate s).clock = s.clock := rfl
@[simp] theorem evaluate_timer : (evaluate s).timer = s.timer := rfl
@[simp] theorem evaluate_uart : (evaluate s).uart = s.uart := rfl
@[simp] theorem evaluate_now : (evaluate s).now = s.now := rfl
@[simp] theorem evaluate_cfg : (evaluate s).cfg = s.cfg := rfl
@[simp] theorem evaluate_diag : (evaluate s).diag = s.diag := rfl
@[simp] theorem evaluate_emitted : (evaluate s).emitted = s.emitted := rfl
@[simp] theorem evaluate_result : (evaluate s).result = s.result := rfl
@[simp] theorem evaluate_guest : (evaluate s).guest = s.guest := rfl
@[simp] theorem evaluate_input : (evaluate s).input = s.input := rfl

@[simp] theorem takeEntry_router (e : Entry) (rest : List Entry) : (takeEntry e rest s).router = s.router := rfl
@[simp] theorem takeEntry_clock (e : Entry) (rest : List Entry) : (takeEntry e rest s).clock = s.clock := rfl
@[simp] theorem takeEntry_timer (e : Entry) (rest : List Entry) : (takeEntry e rest s).timer = s.timer := rfl
@[simp] theorem takeEntry_uart (e : Entry) (rest : List Entry) : (takeEntry e rest s).uart = s.uart := rfl
@[simp] theorem takeEntry_now (e : Entry) (rest : List Entry) : (takeEntry e rest s).now = s.now := rfl
@[simp] theorem takeEntry_cfg (e : Entry) (rest : List Entry) : (takeEntry e rest s).cfg = s.cfg := rfl
@[simp] theorem takeEntry_diag (e : Entry) (rest : List Entry) : (takeEntry e rest s).diag = s.diag := rfl
@[simp] theorem takeEntry_emitted (e : Entry) (rest : List Entry) : (takeEntry e rest s).emitted = s.emitted := rfl
@[simp] theorem takeEntry_result (e : Entry) (rest : List Entry) : (takeEntry e rest s).result = s.result := rfl
@[simp] theorem takeEntry_guest (e : Entry) (rest : List Entry) : (takeEntry e rest s).guest = Memory.writeAll s.guest e.stores := rfl
@[simp] theorem takeEntry_input (e : Entry) (rest : List Entry) : (takeEntry e rest s).input = rest := rfl

@[simp] theorem putFirst_router (o : Op) : (putFirst o s).router = s.router := rfl
@[simp] theorem putFirst_clock (o : Op) : (putFirst o s).clock = s.clock := rfl
@[simp] theorem putFirst_timer (o : Op) : (putFirst o s).timer = s.timer := rfl
@[simp] theorem putFirst_uart (o : Op) : (putFirst o s).uart = s.uart := rfl
@[simp] theorem putFirst_now (o : Op) : (putFirst o s).now = s.now := rfl
@[simp] theorem putFirst_cfg (o : Op) : (putFirst o s).cfg = s.cfg := rfl
@[simp] theorem putFirst_diag (o : Op) : (putFirst o s).diag = s.diag := rfl
@[simp] theorem putFirst_emitted (o : Op) : (putFirst o s).emitted = s.emitted := rfl
@[simp] theorem putFirst_result (o : Op) : (putFirst o s).result = s.result := rfl
@[simp] theorem putFirst_guest (o : Op) : (putFirst o s).guest = s.guest := rfl
@[simp] theorem putFirst_input (o : Op) : (putFirst o s).input = { stores := [], op := o } :: s.input := rfl

@[simp] theorem Timer.chan_setChan_same (t : Timer) (c : Channel) (x : Compare) : (t.setChan c x).chan c = x := by
  cases c <;> rfl

theorem Timer.chan_setChan_other (t : Timer) (c d : Channel) (x : Compare) (h : d ≠ c) : (t.setChan c x).chan d = t.chan d := by
  cases c <;> cases d <;> first | rfl | exact absurd rfl h

@[simp] theorem Timer.setChan_alarm (t : Timer) (c : Channel) (x : Compare) : (t.setChan c x).alarm = t.alarm := by
  cases c <;> rfl

@[simp] theorem Timer.setChan_t0 (t : Timer) (c : Channel) (x : Compare) : (t.setChan c x).t0 = t.t0 := by
  cases c <;> rfl

end Sys2Proof.Machine
end

