-- ==== Sys2Proof/Laws/Router.lean ====
section
/-! SUPPORT. The router: source slots, what the arbitration picks (R202), and everything a level input and the two level sends can do
(R201, R320, R391). -/

namespace Sys2Proof.Machine

@[simp] theorem Router.source_setSource_same (r : Router) (i : SourceIndex) (x : Source) : (r.setSource i x).source i = x := by
  simp [Router.source, Router.setSource]

theorem Router.source_setSource_other (r : Router) (i j : SourceIndex) (x : Source) (h : j ≠ i) :
    (r.setSource i x).source j = r.source j := by
  have hij : i.val ≠ j.val := fun e => h (Fin.ext e.symm)
  simp [Router.source, Router.setSource, hij]

@[simp] theorem Router.setSource_line (r : Router) (i : SourceIndex) (x : Source) : (r.setSource i x).line = r.line := rfl

@[simp] theorem Router.setSource_cpuPrio (r : Router) (i : SourceIndex) (x : Source) : (r.setSource i x).cpuPrio = r.cpuPrio := rfl

@[simp] theorem Router.source_resetValue (i : SourceIndex) : Router.resetValue.source i = Source.cleared := by
  simp [Router.source, Router.resetValue]

theorem firstQualifying_eq_none (ri k : Nat) (l : List Source) (h : firstQualifying ri k l = none) :
    ∀ n (hn : n < l.length), qualifies ri (k + n) l[n] = false := by
  induction l generalizing k with
  | nil => intro n hn; simp at hn
  | cons x rest ih =>
    by_cases hq : qualifies ri k x = true
    · simp [firstQualifying, hq] at h
    · have hf : qualifies ri k x = false := by simpa using hq
      rw [firstQualifying, if_neg hq] at h
      intro n hn
      cases n with
      | zero => simpa using hf
      | succ m =>
        have := ih (k + 1) h m (by simpa using hn)
        simpa [Nat.add_assoc, Nat.add_comm 1 m] using this

theorem firstQualifying_eq_some (ri k : Nat) (l : List Source) (x : Source) (h : firstQualifying ri k l = some x) :
    ∃ n, ∃ hn : n < l.length, l[n] = x ∧ qualifies ri (k + n) x = true ∧
      ∀ m (hm : m < n), qualifies ri (k + m) (l[m]'(hm.trans hn)) = false := by
  induction l generalizing k with
  | nil => simp [firstQualifying] at h
  | cons y rest ih =>
    by_cases hq : qualifies ri k y = true
    · simp only [firstQualifying, hq, if_true, Option.some.injEq] at h
      subst h
      exact ⟨0, by simp, rfl, by simpa using hq, fun m hm => absurd hm (Nat.not_lt_zero m)⟩
    · have hf : qualifies ri k y = false := by simpa using hq
      rw [firstQualifying, if_neg hq] at h
      obtain ⟨n, hn, hx, hqn, hlow⟩ := ih (k + 1) h
      refine ⟨n + 1, by simpa using hn, by simpa using hx, ?_, ?_⟩
      · simpa [Nat.add_assoc, Nat.add_comm 1 n] using hqn
      · intro m hm
        cases m with
        | zero => simpa using hf
        | succ j =>
          have := hlow j (by omega)
          simpa [Nat.add_assoc, Nat.add_comm 1 j] using this

theorem Router.toList_source (r : Router) (n : Nat) (hn : n < r.src.toList.length) (h : n < 256) :
    r.src.toList[n] = r.source ⟨n, h⟩ := by
  simp [Router.source]

theorem sourceQualifies_iff (s : State) (i : SourceIndex) :
    SourceQualifies s i ↔ qualifies s.cfg.resetIndex.val i.val (s.router.source i) = true := by
  simp [SourceQualifies, qualifies, Fin.ext_iff]

/-- No winner means that no source qualifies. -/
theorem winner_eq_none (s : State) (h : winner s.cfg s.router = none) (i : SourceIndex) : ¬ SourceQualifies s i := by
  rw [sourceQualifies_iff]
  have hlen : i.val < s.router.src.toList.length := by simp
  have := firstQualifying_eq_none _ _ _ h i.val hlen
  rw [Router.toList_source _ _ hlen i.isLt] at this
  simpa using this

/-- The winner is the source of the lowest qualifying index. -/
theorem winner_eq_some (s : State) (x : Source) (h : winner s.cfg s.router = some x) :
    ∃ i, LowestQualifying s i ∧ s.router.source i = x := by
  obtain ⟨n, hn, hx, hq, hlow⟩ := firstQualifying_eq_some _ _ _ _ h
  have h256 : n < 256 := by simpa using hn
  rw [Router.toList_source _ _ hn h256] at hx
  refine ⟨⟨n, h256⟩, ⟨?_, ?_⟩, hx⟩
  · rw [sourceQualifies_iff, hx]; simpa using hq
  · intro j hj hqj
    rw [sourceQualifies_iff] at hqj
    have hjn : j.val < n := hj
    have := hlow j.val hjn
    rw [Router.toList_source _ _ (hjn.trans hn) j.isLt] at this
    simp [hqj] at this

theorem LowestQualifying.unique {s : State} {i j : SourceIndex} (hi : LowestQualifying s i) (hj : LowestQualifying s j) : i = j := by
  rcases lt_trichotomy i j with h | h | h
  · exact absurd hi.1 (hj.2 i h)
  · exact h
  · exact absurd hj.1 (hi.2 j h)

@[simp] theorem arbitrate_src (p : Params) (r : Router) : (arbitrate p r).src = r.src := by
  unfold arbitrate; split <;> rfl

@[simp] theorem arbitrate_source (p : Params) (r : Router) (i : SourceIndex) : (arbitrate p r).source i = r.source i := by
  simp [Router.source]

theorem sourceQualifies_congr {s t : State} (hc : t.cfg = s.cfg) (hs : ∀ i, t.router.source i = s.router.source i)
    (i : SourceIndex) : SourceQualifies t i ↔ SourceQualifies s i := by
  simp [SourceQualifies, hc, hs]

theorem lowestQualifying_congr {s t : State} (hc : t.cfg = s.cfg) (hs : ∀ i, t.router.source i = s.router.source i)
    (i : SourceIndex) : LowestQualifying t i ↔ LowestQualifying s i := by
  simp [LowestQualifying, sourceQualifies_congr hc hs]

/-- `evaluate()` establishes the output invariant, whatever the router held before. -/
theorem evaluate_agrees (s : State) : RouterOutputAgrees (evaluate s) := by
  have hs : ∀ i, (evaluate s).router.source i = s.router.source i := by simp
  have hc : (evaluate s).cfg = s.cfg := rfl
  cases hw : winner s.cfg s.router with
  | none =>
    have hno := winner_eq_none s hw
    have hl : (evaluate s).router.line = false := by simp [arbitrate, hw]
    refine ⟨?_, fun i hi => ?_⟩
    · simp only [hl, Bool.false_eq_true, false_iff, not_exists]
      intro i hi
      exact hno i ((sourceQualifies_congr hc hs i).mp hi)
    · exact absurd ((sourceQualifies_congr hc hs i).mp hi.1) (hno i)
  | some x =>
    obtain ⟨w, hlow, hx⟩ := winner_eq_some s x hw
    have hl : (evaluate s).router.line = true := by simp [arbitrate, hw]
    have hp : (evaluate s).router.cpuPrio = x.prio := by simp [arbitrate, hw]
    refine ⟨⟨fun _ => ⟨w, (sourceQualifies_congr hc hs w).mpr hlow.1⟩, fun _ => hl⟩, fun i hi => ?_⟩
    have hiw : i = w := LowestQualifying.unique ((lowestQualifying_congr hc hs i).mp hi) hlow
    rw [hp, hs, hiw, hx]

/-- Without a qualifying source `evaluate()` holds the priority output. -/
theorem evaluate_holds_cpuPrio (s : State) (h : ∀ i, ¬ SourceQualifies s i) :
    (evaluate s).router.cpuPrio = s.router.cpuPrio ∧ (evaluate s).router.line = false := by
  cases hw : winner s.cfg s.router with
  | none => simp [arbitrate, hw]
  | some x =>
    obtain ⟨w, hlow, _⟩ := winner_eq_some s x hw
    exact absurd hlow.1 (h w)

theorem routerOutputAgrees_congr {s t : State} (hc : t.cfg = s.cfg) (hr : t.router = s.router) :
    RouterOutputAgrees t ↔ RouterOutputAgrees s := by
  have hs : ∀ i, t.router.source i = s.router.source i := by simp [hr]
  simp [RouterOutputAgrees, hr, sourceQualifies_congr hc hs, lowestQualifying_congr hc hs]

/-- Everything a level input can do: nothing, where the pending bit has the level already, else the bit flips and the router
evaluates. -/
theorem setLevel_cases (i : SourceIndex) (l : Bool) (s : State) :
    ((s.router.source i).pending = l ∧ setLevel i l s = s) ∨
      ((s.router.source i).pending ≠ l ∧
        setLevel i l s = evaluate (s.onRouter fun r => r.setSource i { r.source i with pending := l })) := by
  by_cases h : (s.router.source i).pending = l <;> simp [setLevel, h]

@[simp] theorem setLevel_clock (i : SourceIndex) (l : Bool) (s : State) : (setLevel i l s).clock = s.clock := by
  rcases setLevel_cases i l s with ⟨_, e⟩ | ⟨_, e⟩ <;> simp [e]

@[simp] theorem setLevel_timer (i : SourceIndex) (l : Bool) (s : State) : (setLevel i l s).timer = s.timer := by
  rcases setLevel_cases i l s with ⟨_, e⟩ | ⟨_, e⟩ <;> simp [e]

@[simp] theorem setLevel_uart (i : SourceIndex) (l : Bool) (s : State) : (setLevel i l s).uart = s.uart := by
  rcases setLevel_cases i l s with ⟨_, e⟩ | ⟨_, e⟩ <;> simp [e]

@[simp] theorem setLevel_now (i : SourceIndex) (l : Bool) (s : State) : (setLevel i l s).now = s.now := by
  rcases setLevel_cases i l s with ⟨_, e⟩ | ⟨_, e⟩ <;> simp [e]

@[simp] theorem setLevel_cfg (i : SourceIndex) (l : Bool) (s : State) : (setLevel i l s).cfg = s.cfg := by
  rcases setLevel_cases i l s with ⟨_, e⟩ | ⟨_, e⟩ <;> simp [e]

@[simp] theorem setLevel_diag (i : SourceIndex) (l : Bool) (s : State) : (setLevel i l s).diag = s.diag := by
  rcases setLevel_cases i l s with ⟨_, e⟩ | ⟨_, e⟩ <;> simp [e]

@[simp] theorem setLevel_emitted (i : SourceIndex) (l : Bool) (s : State) : (setLevel i l s).emitted = s.emitted := by
  rcases setLevel_cases i l s with ⟨_, e⟩ | ⟨_, e⟩ <;> simp [e]

@[simp] theorem setLevel_result (i : SourceIndex) (l : Bool) (s : State) : (setLevel i l s).result = s.result := by
  rcases setLevel_cases i l s with ⟨_, e⟩ | ⟨_, e⟩ <;> simp [e]

@[simp] theorem setLevel_guest (i : SourceIndex) (l : Bool) (s : State) : (setLevel i l s).guest = s.guest := by
  rcases setLevel_cases i l s with ⟨_, e⟩ | ⟨_, e⟩ <;> simp [e]

@[simp] theorem setLevel_input (i : SourceIndex) (l : Bool) (s : State) : (setLevel i l s).input = s.input := by
  rcases setLevel_cases i l s with ⟨_, e⟩ | ⟨_, e⟩ <;> simp [e]

theorem setLevel_source_same (i : SourceIndex) (l : Bool) (s : State) :
    (setLevel i l s).router.source i = { s.router.source i with pending := l } := by
  rcases setLevel_cases i l s with ⟨h, e⟩ | ⟨_, e⟩
  · rw [e, ← h]
  · simp [e]

theorem setLevel_source_other (i j : SourceIndex) (l : Bool) (s : State) (h : j ≠ i) :
    (setLevel i l s).router.source j = s.router.source j := by
  rcases setLevel_cases i l s with ⟨_, e⟩ | ⟨_, e⟩
  · rw [e]
  · simp [e, Router.source_setSource_other _ _ _ _ h]

/-- A level input keeps the output invariant. -/
theorem setLevel_agrees (i : SourceIndex) (l : Bool) (s : State) (h : RouterOutputAgrees s) : RouterOutputAgrees (setLevel i l s) := by
  rcases setLevel_cases i l s with ⟨_, e⟩ | ⟨_, e⟩
  · rwa [e]
  · rw [e]; exact evaluate_agrees _

@[simp] theorem sendTimer_clock (s : State) : (sendTimer s).clock = s.clock := by
  simp [sendTimer]

@[simp] theorem sendTimer_timer (s : State) : (sendTimer s).timer = s.timer := by
  simp [sendTimer]

@[simp] theorem sendTimer_uart (s : State) : (sendTimer s).uart = s.uart := by
  simp [sendTimer]

@[simp] theorem sendTimer_now (s : State) : (sendTimer s).now = s.now := by
  simp [sendTimer]

@[simp] theorem sendTimer_cfg (s : State) : (sendTimer s).cfg = s.cfg := by
  simp [sendTimer]

@[simp] theorem sendTimer_diag (s : State) : (sendTimer s).diag = s.diag := by
  simp [sendTimer]

@[simp] theorem sendTimer_emitted (s : State) : (sendTimer s).emitted = s.emitted := by
  simp [sendTimer]

@[simp] theorem sendTimer_result (s : State) : (sendTimer s).result = s.result := by
  simp [sendTimer]

@[simp] theorem sendTimer_guest (s : State) : (sendTimer s).guest = s.guest := by
  simp [sendTimer]

@[simp] theorem sendTimer_input (s : State) : (sendTimer s).input = s.input := by
  simp [sendTimer]

@[simp] theorem sendUart_clock (s : State) : (sendUart s).clock = s.clock := by
  simp [sendUart]

@[simp] theorem sendUart_timer (s : State) : (sendUart s).timer = s.timer := by
  simp [sendUart]

@[simp] theorem sendUart_uart (s : State) : (sendUart s).uart = s.uart := by
  simp [sendUart]

@[simp] theorem sendUart_now (s : State) : (sendUart s).now = s.now := by
  simp [sendUart]

@[simp] theorem sendUart_cfg (s : State) : (sendUart s).cfg = s.cfg := by
  simp [sendUart]

@[simp] theorem sendUart_diag (s : State) : (sendUart s).diag = s.diag := by
  simp [sendUart]

@[simp] theorem sendUart_emitted (s : State) : (sendUart s).emitted = s.emitted := by
  simp [sendUart]

@[simp] theorem sendUart_result (s : State) : (sendUart s).result = s.result := by
  simp [sendUart]

@[simp] theorem sendUart_guest (s : State) : (sendUart s).guest = s.guest := by
  simp [sendUart]

@[simp] theorem sendUart_input (s : State) : (sendUart s).input = s.input := by
  simp [sendUart]

/-- The timer's level send keeps the output invariant. -/
theorem sendTimer_agrees (s : State) (h : RouterOutputAgrees s) : RouterOutputAgrees (sendTimer s) :=
  setLevel_agrees _ _ _ h

/-- The UART's level send keeps the output invariant. -/
theorem sendUart_agrees (s : State) (h : RouterOutputAgrees s) : RouterOutputAgrees (sendUart s) :=
  setLevel_agrees _ _ _ (setLevel_agrees _ _ _ (setLevel_agrees _ _ _ h))

/-- After the UART's level send the pending bits of its three sources are the three levels. -/
theorem sendUart_pending (s : State) (h1 : s.cfg.uartRxSrc ≠ s.cfg.uartTxSrc) (h2 : s.cfg.uartRxSrc ≠ s.cfg.uartErrSrc)
    (h3 : s.cfg.uartTxSrc ≠ s.cfg.uartErrSrc) :
    ((sendUart s).router.source s.cfg.uartRxSrc).pending = rxLevel s.uart ∧
      ((sendUart s).router.source s.cfg.uartTxSrc).pending = txLevel s.uart ∧
      ((sendUart s).router.source s.cfg.uartErrSrc).pending = errLevel s.uart := by
  refine ⟨?_, ?_, ?_⟩
  · simp [sendUart, setLevel_source_other _ _ _ _ h2, setLevel_source_other _ _ _ _ h1, setLevel_source_same]
  · simp [sendUart, setLevel_source_other _ _ _ _ h3, setLevel_source_same]
  · simp [sendUart, setLevel_source_same]

/-- The UART's level send leaves every other source alone. -/
theorem sendUart_source_other (s : State) (i : SourceIndex) (h1 : i ≠ s.cfg.uartRxSrc) (h2 : i ≠ s.cfg.uartTxSrc)
    (h3 : i ≠ s.cfg.uartErrSrc) : (sendUart s).router.source i = s.router.source i := by
  simp [sendUart, setLevel_source_other _ _ _ _ h1, setLevel_source_other _ _ _ _ h2, setLevel_source_other _ _ _ _ h3]

/-- A level input changes nothing of a source but its pending bit. -/
theorem setLevel_source_config (i j : SourceIndex) (l : Bool) (s : State) :
    ((setLevel i l s).router.source j).enabled = (s.router.source j).enabled ∧
      ((setLevel i l s).router.source j).prio = (s.router.source j).prio := by
  by_cases h : j = i
  · subst h; simp [setLevel_source_same]
  · simp [setLevel_source_other _ _ _ _ h]

@[simp] theorem afterAccess_clock (u : UnitId) (d : Dir) (s : State) : (afterAccess u d s).clock = s.clock := by
  cases u <;> cases d <;> simp [afterAccess]

@[simp] theorem afterAccess_timer (u : UnitId) (d : Dir) (s : State) : (afterAccess u d s).timer = s.timer := by
  cases u <;> cases d <;> simp [afterAccess]

@[simp] theorem afterAccess_uart (u : UnitId) (d : Dir) (s : State) : (afterAccess u d s).uart = s.uart := by
  cases u <;> cases d <;> simp [afterAccess]

@[simp] theorem afterAccess_now (u : UnitId) (d : Dir) (s : State) : (afterAccess u d s).now = s.now := by
  cases u <;> cases d <;> simp [afterAccess]

@[simp] theorem afterAccess_cfg (u : UnitId) (d : Dir) (s : State) : (afterAccess u d s).cfg = s.cfg := by
  cases u <;> cases d <;> simp [afterAccess]

@[simp] theorem afterAccess_diag (u : UnitId) (d : Dir) (s : State) : (afterAccess u d s).diag = s.diag := by
  cases u <;> cases d <;> simp [afterAccess]

@[simp] theorem afterAccess_emitted (u : UnitId) (d : Dir) (s : State) : (afterAccess u d s).emitted = s.emitted := by
  cases u <;> cases d <;> simp [afterAccess]

@[simp] theorem afterAccess_result (u : UnitId) (d : Dir) (s : State) : (afterAccess u d s).result = s.result := by
  cases u <;> cases d <;> simp [afterAccess]

@[simp] theorem afterAccess_guest (u : UnitId) (d : Dir) (s : State) : (afterAccess u d s).guest = s.guest := by
  cases u <;> cases d <;> simp [afterAccess]

@[simp] theorem afterAccess_input (u : UnitId) (d : Dir) (s : State) : (afterAccess u d s).input = s.input := by
  cases u <;> cases d <;> simp [afterAccess]

/-- The after-access actions keep the output invariant. -/
theorem afterAccess_agrees (u : UnitId) (d : Dir) (s : State) (h : RouterOutputAgrees s) : RouterOutputAgrees (afterAccess u d s) := by
  cases u <;> cases d <;> first | exact h | exact sendTimer_agrees s h | exact sendUart_agrees s h

end Sys2Proof.Machine
end

