-- ==== Sys2Proof/Laws/Access.lean ====
section
/-! SUPPORT. What the statements about register operations need beyond the lemmas of one operation: admission of declared registers, the
after-access actions by unit, what the level sends read, and the reports of an operation. -/

namespace Sys2Proof.Machine

@[simp] theorem afterAccess_ir (d : Dir) (s : State) : afterAccess .ir d s = s := rfl

@[simp] theorem afterAccess_ccu (d : Dir) (s : State) : afterAccess .ccu d s = s := rfl

@[simp] theorem afterAccess_stm_read (s : State) : afterAccess .stm .read s = s := rfl

@[simp] theorem afterAccess_stm_write (s : State) : afterAccess .stm .write s = sendTimer s := rfl

@[simp] theorem afterAccess_uart_any (d : Dir) (s : State) : afterAccess .uart d s = sendUart s := rfl

/-- An aligned access to a declared register of the clock unit, the timer or the UART is admitted. -/
theorem admission_unitRegister (p : Params) (u : UnitId) (hu : u ≠ .ir) (w : Nat) (sz : Size) (lane : Lane) (hw : w % 4 = 0)
    (hwin : w + 4 ≤ 0x100) (h : Aligned sz lane) : admission (windowSize p u) (w + lane.val) sz = none := by
  apply admission_declared _ _ _ _ hw _ h
  cases u <;> simp_all [windowSize]

/-- An aligned access to a source word is admitted. -/
theorem admission_sourceWord (s : State) (hw : s.cfg.wf) (i : SourceIndex) (sz : Size) (lane : Lane) (h : Aligned sz lane) :
    admission (windowSize s.cfg .ir) (4 * i.val + lane.val) sz = none := by
  apply admission_declared _ _ _ _ (by omega) _ h
  have := hw.2.1.2.1
  have := i.isLt
  simp only [windowSize]
  omega

/-- A level input reads nothing but the router and the parameters. -/
theorem setLevel_router_congr {s s' : State} (i : SourceIndex) (l : Bool) (h1 : s.router = s'.router) (h2 : s.cfg = s'.cfg) :
    (setLevel i l s).router = (setLevel i l s').router := by
  simp only [setLevel, h1]
  split
  · exact h1
  · simp [evaluate, h1, h2]

/-- The UART's level send reads nothing but the router, the parameters and the UART. -/
theorem sendUart_router_congr {s s' : State} (h1 : s.router = s'.router) (h2 : s.cfg = s'.cfg) (h3 : s.uart = s'.uart) :
    (sendUart s).router = (sendUart s').router := by
  simp only [sendUart, h2, h3]
  apply setLevel_router_congr _ _ _ (by simp [h2])
  apply setLevel_router_congr _ _ _ (by simp [h2])
  exact setLevel_router_congr _ _ h1 h2

theorem reports_nil {s t : State} (h : t.diag = s.diag) : Reports s t [] := ⟨[], by simp [h], by simp⟩

theorem reports_report (s : State) (ds : List Diag) : Reports s (s.report ds) ds := by
  cases ds with
  | nil => exact reports_nil rfl
  | cons d rest => exact ⟨[d :: rest], rfl, by simp⟩

theorem reports_congr {s s' t t' : State} {ds : List Diag} (h : Reports s t ds) (h1 : s'.diag = s.diag) (h2 : t'.diag = t.diag) :
    Reports s' t' ds := by
  obtain ⟨n, e, f⟩ := h
  exact ⟨n, by rw [h1, h2, e], f⟩

/-- Clear, then set: the set bit wins (R97). -/
theorem clearThenSet_eq (clr set b : Bool) : clearThenSet clr set b = if set then true else if clr then false else b := by
  revert clr set b
  decide

end Sys2Proof.Machine
end

