-- ==== Sys2Proof/Laws/Encoding.lean ====
section
/-! SUPPORT. The fields of a descriptor: what the encoder lays out (R111, R112) the decoder's field extraction reads back. -/

namespace Sys2Proof

open Sys2Proof.Machine

theorem bits_ofNat (hi lo n : Nat) (h : n < 4294967296) : bits hi lo (BitVec.ofNat 32 n) = n / 2 ^ lo % 2 ^ (hi + 1 - lo) := by
  have : n % 2 ^ 32 = n := Nat.mod_eq_of_lt (by simpa using h)
  rw [bits, BitVec.toNat_ofNat, this]

theorem parse_of_bus_fields (w : Word) (d : Dir) (sz : Size) (u : UnitId) (off : Offset) (h31 : bits 31 31 w = 0)
    (h26 : bits 27 26 w = 0) (h12 : bits 23 12 w = 0) (hd : bits 30 30 w = d.code) (hs : bits 29 28 w = sz.code)
    (hu : bits 25 24 w = u.code) (ho : bits 11 0 w = off.val) : Form.parse w = .ok (.bus d sz u off) := by
  have f1 : Dir.ofCode d.code = d := by cases d <;> rfl
  have f2 : Size.ofCode sz.code = some sz := by cases sz <;> rfl
  have f3 : UnitId.ofCode u.code = u := by cases u <;> rfl
  have f4 : Fin.ofNat 4096 off.val = off := by ext; simp
  simp [Form.parse, h31, h26, h12, hd, hs, hu, ho, f1, f2, f3]

theorem parse_bus (d : Dir) (sz : Size) (u : UnitId) (off : Offset) :
    Form.parse (Form.bus d sz u off).toWord = .ok (.bus d sz u off) := by
  have ho := off.isLt
  have hd : d.code < 2 := by cases d <;> decide
  have hs : sz.code < 3 := by cases sz <;> decide
  have hu : u.code < 4 := by cases u <;> decide
  have hn : (Form.bus d sz u off).number = d.code * 1073741824 + sz.code * 268435456 + u.code * 16777216 + off.val := by
    simp [Form.number]
  have hlt : (Form.bus d sz u off).number < 4294967296 := by omega
  apply parse_of_bus_fields <;> rw [Form.toWord, bits_ofNat _ _ _ hlt, hn] <;> norm_num <;> omega

theorem parse_event (c p : Nat) (hc : c < 128) (hp : p < 16777216) : Form.parse (Form.event c p).toWord = .ok (.event c p) := by
  have hn : (Form.event c p).number = 2147483648 + c * 16777216 + p := by simp [Form.number]
  have hlt : (Form.event c p).number < 4294967296 := by omega
  have h1 : bits 31 31 (Form.event c p).toWord = 1 := by
    rw [Form.toWord, bits_ofNat _ _ _ hlt, hn]; norm_num; omega
  have h2 : bits 30 24 (Form.event c p).toWord = c := by
    rw [Form.toWord, bits_ofNat _ _ _ hlt, hn]; norm_num; omega
  have h3 : bits 23 0 (Form.event c p).toWord = p := by
    rw [Form.toWord, bits_ofNat _ _ _ hlt, hn]; norm_num; omega
  generalize (Form.event c p).toWord = w at *
  simp [Form.parse, h1, h2, h3]

/-- The decoder's field extraction reads back the form of every operation. -/
theorem parse_form (i : Instr) : Form.parse i.form.toWord = .ok i.form := by
  cases i
  case evReset u => exact parse_event _ _ (by decide) (by cases u <;> decide)
  case evLock l => exact parse_event _ _ (by decide) (by cases l <;> decide)
  case evLevel i l => exact parse_event _ _ (by decide) (by have := i.isLt; cases l <;> simp <;> omega)
  case evResetAll | evTime | evAlarm | evRx | evWritable | evSnapshot | evRestore => exact parse_event _ _ (by decide) (by decide)
  all_goals exact parse_bus _ _ _ _

end Sys2Proof
end

