-- ==== Sys2Proof/Laws/Memory.lean ====
section
/-! SUPPORT. Byte memory: a read after a write, and the canonical form that every write keeps. -/

namespace Sys2Proof.Machine

@[simp] theorem Memory.read_nil (a : Nat) : Memory.read [] a = Memory.unlisted := rfl

theorem Memory.erase_cons_same (c : Host.Cell) (m : Memory) (a : Nat) (h : c.1 = a) :
    Memory.erase (c :: m) a = Memory.erase m a := by
  simp [Memory.erase, h]

theorem Memory.erase_cons_other (c : Host.Cell) (m : Memory) (a : Nat) (h : c.1 ≠ a) :
    Memory.erase (c :: m) a = c :: Memory.erase m a := by
  simp [Memory.erase, h]

theorem Memory.read_erase_same (m : Memory) (a : Nat) : Memory.read (Memory.erase m a) a = Memory.unlisted := by
  induction m with
  | nil => rfl
  | cons c rest ih =>
    by_cases h : c.1 = a
    · rw [Memory.erase_cons_same c rest a h, ih]
    · rw [Memory.erase_cons_other c rest a h, Memory.read, if_neg h, ih]

theorem Memory.read_erase_other (m : Memory) (a b : Nat) (hb : b ≠ a) :
    Memory.read (Memory.erase m a) b = Memory.read m b := by
  induction m with
  | nil => rfl
  | cons c rest ih =>
    by_cases h : c.1 = a
    · have hcb : c.1 ≠ b := fun e => hb (e.symm.trans h)
      rw [Memory.erase_cons_same c rest a h, ih, Memory.read, if_neg hcb]
    · rw [Memory.erase_cons_other c rest a h, Memory.read, Memory.read, ih]

theorem Memory.read_insert_other (c : Host.Cell) (m : Memory) (b : Nat) (hb : b ≠ c.1) :
    Memory.read (Memory.insert c m) b = Memory.read m b := by
  have hcb : c.1 ≠ b := fun e => hb e.symm
  induction m with
  | nil => simp [Memory.insert, Memory.read, hcb]
  | cons d rest ih =>
    by_cases h : c.1 < d.1
    · rw [Memory.insert, if_pos h, Memory.read, if_neg hcb]
    · rw [Memory.insert, if_neg h, Memory.read, Memory.read, ih]

theorem Memory.read_insert_same (c : Host.Cell) (m : Memory) (hm : ∀ d ∈ m, d.1 ≠ c.1) :
    Memory.read (Memory.insert c m) c.1 = c.2 := by
  induction m with
  | nil => simp [Memory.insert, Memory.read]
  | cons d rest ih =>
    by_cases h : c.1 < d.1
    · simp [Memory.insert, h, Memory.read]
    · have hd : ¬ d.1 = c.1 := hm d (by simp)
      have hr := ih (fun e he => hm e (by simp [he]))
      simp [Memory.insert, h, Memory.read, hd, hr]

theorem Memory.mem_erase_ne (m : Memory) (a : Nat) : ∀ d ∈ Memory.erase m a, d.1 ≠ a := by
  intro d hd
  simpa [Memory.erase] using (List.mem_filter.mp hd).2

/-- A read after a write to the same address gives the byte written; every other address reads as before. -/
theorem Memory.read_write (m : Memory) (a b : Nat) (v : Byte) :
    Memory.read (Memory.write m a v) b = if b = a then v else Memory.read m b := by
  by_cases hb : b = a
  · subst hb
    by_cases hv : v = Memory.unlisted
    · simp [Memory.write, hv, Memory.read_erase_same]
    · have := Memory.read_insert_same (b, v) (Memory.erase m b) (Memory.mem_erase_ne m b)
      simpa [Memory.write, hv] using this
  · by_cases hv : v = Memory.unlisted
    · simp [Memory.write, hv, hb, Memory.read_erase_other m a b hb]
    · simp [Memory.write, hv, hb, Memory.read_insert_other (a, v) _ b hb, Memory.read_erase_other m a b hb]

theorem Memory.risingFrom_mono {lo hi : Nat} (h : lo ≤ hi) {m : Memory} (hm : Memory.risingFrom hi m = true) :
    Memory.risingFrom lo m = true := by
  cases m with
  | nil => rfl
  | cons c rest =>
    simp only [Memory.risingFrom, Bool.and_eq_true, decide_eq_true_eq] at hm ⊢
    exact ⟨⟨h.trans hm.1.1, hm.1.2⟩, hm.2⟩

theorem Memory.risingFrom_erase (m : Memory) (a lo : Nat) (hm : Memory.risingFrom lo m = true) :
    Memory.risingFrom lo (Memory.erase m a) = true := by
  induction m generalizing lo with
  | nil => rfl
  | cons c rest ih =>
    simp only [Memory.risingFrom, Bool.and_eq_true, decide_eq_true_eq] at hm
    by_cases h : c.1 = a
    · rw [Memory.erase_cons_same c rest a h]
      exact Memory.risingFrom_mono (hm.1.1.trans (Nat.le_succ _)) (ih _ hm.2)
    · rw [Memory.erase_cons_other c rest a h]
      simp [Memory.risingFrom, hm.1.1, hm.1.2, ih _ hm.2]

theorem Memory.risingFrom_insert (c : Host.Cell) (m : Memory) (lo : Nat) (hlo : lo ≤ c.1) (hv : c.2 ≠ Memory.unlisted)
    (hne : ∀ d ∈ m, d.1 ≠ c.1) (hm : Memory.risingFrom lo m = true) :
    Memory.risingFrom lo (Memory.insert c m) = true := by
  induction m generalizing lo with
  | nil => simp [Memory.insert, Memory.risingFrom, hlo, hv]
  | cons d rest ih =>
    simp only [Memory.risingFrom, Bool.and_eq_true, decide_eq_true_eq] at hm
    by_cases h : c.1 < d.1
    · simp [Memory.insert, h, Memory.risingFrom, hlo, hv, hm.1.2, hm.2, Nat.succ_le_of_lt h]
    · have hd : d.1 ≠ c.1 := hne d (by simp)
      have hlt : d.1 + 1 ≤ c.1 := by omega
      have := ih (d.1 + 1) hlt (fun e he => hne e (by simp [he])) hm.2
      simp [Memory.insert, h, Memory.risingFrom, hm.1.1, hm.1.2, this]

/-- A write keeps the canonical form. -/
theorem Memory.wf_write (m : Memory) (a : Nat) (v : Byte) (hm : Memory.wf m = true) :
    Memory.wf (Memory.write m a v) = true := by
  have he := Memory.risingFrom_erase m a 0 hm
  by_cases hv : v = Memory.unlisted
  · simpa [Memory.wf, Memory.write, hv] using he
  · have := Memory.risingFrom_insert (a, v) _ 0 (Nat.zero_le a) hv (Memory.mem_erase_ne m a) he
    simpa [Memory.wf, Memory.write, hv] using this

/-- A list of stores keeps the canonical form. -/
theorem Memory.wf_writeAll (cs : List Host.Cell) (m : Memory) (hm : Memory.wf m = true) :
    Memory.wf (Memory.writeAll m cs) = true := by
  induction cs generalizing m with
  | nil => exact hm
  | cons c rest ih => exact ih _ (Memory.wf_write m c.1 c.2 hm)

theorem Memory.below_insert (c : Host.Cell) (m : Memory) (n : Nat) (hc : c.1 < n) (hm : Memory.below m n = true) :
    Memory.below (Memory.insert c m) n = true := by
  induction m with
  | nil => simp [Memory.insert, Memory.below, hc]
  | cons d rest ih =>
    have hd : d.1 < n ∧ Memory.below rest n = true := by simpa [Memory.below] using hm
    by_cases h : c.1 < d.1
    · simpa [Memory.insert, h, Memory.below, hc] using hm
    · have := ih hd.2
      simp only [Memory.below] at this
      simp [Memory.insert, h, Memory.below, hd.1, this]

/-- A write below `n` keeps every listed address below `n`. -/
theorem Memory.below_write (m : Memory) (a n : Nat) (v : Byte) (ha : a < n) (hm : Memory.below m n = true) :
    Memory.below (Memory.write m a v) n = true := by
  have he : Memory.below (Memory.erase m a) n = true := by
    simp only [Memory.below, Memory.erase, List.all_eq_true] at hm ⊢
    exact fun d hd => hm d (List.mem_filter.mp hd).1
  by_cases hv : v = Memory.unlisted
  · simpa [Memory.write, hv] using he
  · simpa [Memory.write, hv] using Memory.below_insert (a, v) _ n ha he

end Sys2Proof.Machine
end

