-- ==== Sys2Proof/Laws/Ops.lean ====
section
/-! SUPPORT. What each shared operation leaves alone, one lemma per field, and what it does to the rest: the facts that proofs cite
instead of unfolding the operation. -/

namespace Sys2Proof.Machine

variable (s : State)

@[simp] theorem writePllcon0_router (v : Word) : (writePllcon0 v s).router = s.router := by
  simp [writePllcon0]
@[simp] theorem writePllcon0_timer (v : Word) : (writePllcon0 v s).timer = s.timer := by
  simp [writePllcon0]
@[simp] theorem writePllcon0_uart (v : Word) : (writePllcon0 v s).uart = s.uart := by
  simp [writePllcon0]
@[simp] theorem writePllcon0_now (v : Word) : (writePllcon0 v s).now = s.now := by
  simp [writePllcon0]
@[simp] theorem writePllcon0_cfg (v : Word) : (writePllcon0 v s).cfg = s.cfg := by
  simp [writePllcon0]
@[simp] theorem writePllcon0_emitted (v : Word) : (writePllcon0 v s).emitted = s.emitted := by
  simp [writePllcon0]
@[simp] theorem writePllcon0_result (v : Word) : (writePllcon0 v s).result = s.result := by
  simp [writePllcon0]
@[simp] theorem writePllcon0_guest (v : Word) : (writePllcon0 v s).guest = s.guest := by
  simp [writePllcon0]
@[simp] theorem writePllcon0_input (v : Word) : (writePllcon0 v s).input = s.input := by
  simp [writePllcon0]

@[simp] theorem writeCcucon0_router (v : Word) : (writeCcucon0 v s).router = s.router := by
  unfold writeCcucon0; split <;> simp
@[simp] theorem writeCcucon0_timer (v : Word) : (writeCcucon0 v s).timer = s.timer := by
  unfold writeCcucon0; split <;> simp
@[simp] theorem writeCcucon0_uart (v : Word) : (writeCcucon0 v s).uart = s.uart := by
  unfold writeCcucon0; split <;> simp
@[simp] theorem writeCcucon0_now (v : Word) : (writeCcucon0 v s).now = s.now := by
  unfold writeCcucon0; split <;> simp
@[simp] theorem writeCcucon0_cfg (v : Word) : (writeCcucon0 v s).cfg = s.cfg := by
  unfold writeCcucon0; split <;> simp
@[simp] theorem writeCcucon0_emitted (v : Word) : (writeCcucon0 v s).emitted = s.emitted := by
  unfold writeCcucon0; split <;> simp
@[simp] theorem writeCcucon0_result (v : Word) : (writeCcucon0 v s).result = s.result := by
  unfold writeCcucon0; split <;> simp
@[simp] theorem writeCcucon0_guest (v : Word) : (writeCcucon0 v s).guest = s.guest := by
  unfold writeCcucon0; split <;> simp
@[simp] theorem writeCcucon0_input (v : Word) : (writeCcucon0 v s).input = s.input := by
  unfold writeCcucon0; split <;> simp

@[simp] theorem reportTap_router : (reportTap s).router = s.router := by
  simp [reportTap]
@[simp] theorem reportTap_clock : (reportTap s).clock = s.clock := by
  simp [reportTap]
@[simp] theorem reportTap_timer : (reportTap s).timer = s.timer := by
  simp [reportTap]
@[simp] theorem reportTap_uart : (reportTap s).uart = s.uart := by
  simp [reportTap]
@[simp] theorem reportTap_now : (reportTap s).now = s.now := by
  simp [reportTap]
@[simp] theorem reportTap_cfg : (reportTap s).cfg = s.cfg := by
  simp [reportTap]
@[simp] theorem reportTap_emitted : (reportTap s).emitted = s.emitted := by
  simp [reportTap]
@[simp] theorem reportTap_result : (reportTap s).result = s.result := by
  simp [reportTap]
@[simp] theorem reportTap_guest : (reportTap s).guest = s.guest := by
  simp [reportTap]
@[simp] theorem reportTap_input : (reportTap s).input = s.input := by
  simp [reportTap]

@[simp] theorem captureCap_router : (captureCap s).router = s.router := by
  simp [captureCap]
@[simp] theorem captureCap_clock : (captureCap s).clock = s.clock := by
  simp [captureCap]
@[simp] theorem captureCap_uart : (captureCap s).uart = s.uart := by
  simp [captureCap]
@[simp] theorem captureCap_now : (captureCap s).now = s.now := by
  simp [captureCap]
@[simp] theorem captureCap_cfg : (captureCap s).cfg = s.cfg := by
  simp [captureCap]
@[simp] theorem captureCap_emitted : (captureCap s).emitted = s.emitted := by
  simp [captureCap]
@[simp] theorem captureCap_result : (captureCap s).result = s.result := by
  simp [captureCap]
@[simp] theorem captureCap_guest : (captureCap s).guest = s.guest := by
  simp [captureCap]
@[simp] theorem captureCap_input : (captureCap s).input = s.input := by
  simp [captureCap]

@[simp] theorem captureCapsv_router : (captureCapsv s).router = s.router := by
  simp [captureCapsv]
@[simp] theorem captureCapsv_clock : (captureCapsv s).clock = s.clock := by
  simp [captureCapsv]
@[simp] theorem captureCapsv_uart : (captureCapsv s).uart = s.uart := by
  simp [captureCapsv]
@[simp] theorem captureCapsv_now : (captureCapsv s).now = s.now := by
  simp [captureCapsv]
@[simp] theorem captureCapsv_cfg : (captureCapsv s).cfg = s.cfg := by
  simp [captureCapsv]
@[simp] theorem captureCapsv_emitted : (captureCapsv s).emitted = s.emitted := by
  simp [captureCapsv]
@[simp] theorem captureCapsv_result : (captureCapsv s).result = s.result := by
  simp [captureCapsv]
@[simp] theorem captureCapsv_guest : (captureCapsv s).guest = s.guest := by
  simp [captureCapsv]
@[simp] theorem captureCapsv_input : (captureCapsv s).input = s.input := by
  simp [captureCapsv]

@[simp] theorem cancelAlarm_router : (cancelAlarm s).router = s.router := by
  simp [cancelAlarm]
@[simp] theorem cancelAlarm_clock : (cancelAlarm s).clock = s.clock := by
  simp [cancelAlarm]
@[simp] theorem cancelAlarm_uart : (cancelAlarm s).uart = s.uart := by
  simp [cancelAlarm]
@[simp] theorem cancelAlarm_now : (cancelAlarm s).now = s.now := by
  simp [cancelAlarm]
@[simp] theorem cancelAlarm_cfg : (cancelAlarm s).cfg = s.cfg := by
  simp [cancelAlarm]
@[simp] theorem cancelAlarm_diag : (cancelAlarm s).diag = s.diag := by
  simp [cancelAlarm]
@[simp] theorem cancelAlarm_emitted : (cancelAlarm s).emitted = s.emitted := by
  simp [cancelAlarm]
@[simp] theorem cancelAlarm_result : (cancelAlarm s).result = s.result := by
  simp [cancelAlarm]
@[simp] theorem cancelAlarm_guest : (cancelAlarm s).guest = s.guest := by
  simp [cancelAlarm]
@[simp] theorem cancelAlarm_input : (cancelAlarm s).input = s.input := by
  simp [cancelAlarm]

@[simp] theorem arm_router (c : Channel) : (arm c s).router = s.router := by
  unfold arm; split <;> simp
@[simp] theorem arm_clock (c : Channel) : (arm c s).clock = s.clock := by
  unfold arm; split <;> simp
@[simp] theorem arm_uart (c : Channel) : (arm c s).uart = s.uart := by
  unfold arm; split <;> simp
@[simp] theorem arm_now (c : Channel) : (arm c s).now = s.now := by
  unfold arm; split <;> simp
@[simp] theorem arm_cfg (c : Channel) : (arm c s).cfg = s.cfg := by
  unfold arm; split <;> simp
@[simp] theorem arm_emitted (c : Channel) : (arm c s).emitted = s.emitted := by
  unfold arm; split <;> simp
@[simp] theorem arm_result (c : Channel) : (arm c s).result = s.result := by
  unfold arm; split <;> simp
@[simp] theorem arm_guest (c : Channel) : (arm c s).guest = s.guest := by
  unfold arm; split <;> simp
@[simp] theorem arm_input (c : Channel) : (arm c s).input = s.input := by
  unfold arm; split <;> simp

@[simp] theorem writeCompare_router (c : Channel) (v : Word) : (writeCompare c v s).router = s.router := by
  simp [writeCompare]
@[simp] theorem writeCompare_clock (c : Channel) (v : Word) : (writeCompare c v s).clock = s.clock := by
  simp [writeCompare]
@[simp] theorem writeCompare_uart (c : Channel) (v : Word) : (writeCompare c v s).uart = s.uart := by
  simp [writeCompare]
@[simp] theorem writeCompare_now (c : Channel) (v : Word) : (writeCompare c v s).now = s.now := by
  simp [writeCompare]
@[simp] theorem writeCompare_cfg (c : Channel) (v : Word) : (writeCompare c v s).cfg = s.cfg := by
  simp [writeCompare]
@[simp] theorem writeCompare_emitted (c : Channel) (v : Word) : (writeCompare c v s).emitted = s.emitted := by
  simp [writeCompare]
@[simp] theorem writeCompare_result (c : Channel) (v : Word) : (writeCompare c v s).result = s.result := by
  simp [writeCompare]
@[simp] theorem writeCompare_guest (c : Channel) (v : Word) : (writeCompare c v s).guest = s.guest := by
  simp [writeCompare]
@[simp] theorem writeCompare_input (c : Channel) (v : Word) : (writeCompare c v s).input = s.input := by
  simp [writeCompare]

@[simp] theorem writeIcr_router (v : Word) : (writeIcr v s).router = s.router := by
  unfold writeIcr; dsimp only; split <;> [skip; split] <;> simp
@[simp] theorem writeIcr_clock (v : Word) : (writeIcr v s).clock = s.clock := by
  unfold writeIcr; dsimp only; split <;> [skip; split] <;> simp
@[simp] theorem writeIcr_uart (v : Word) : (writeIcr v s).uart = s.uart := by
  unfold writeIcr; dsimp only; split <;> [skip; split] <;> simp
@[simp] theorem writeIcr_now (v : Word) : (writeIcr v s).now = s.now := by
  unfold writeIcr; dsimp only; split <;> [skip; split] <;> simp
@[simp] theorem writeIcr_cfg (v : Word) : (writeIcr v s).cfg = s.cfg := by
  unfold writeIcr; dsimp only; split <;> [skip; split] <;> simp
@[simp] theorem writeIcr_emitted (v : Word) : (writeIcr v s).emitted = s.emitted := by
  unfold writeIcr; dsimp only; split <;> [skip; split] <;> simp
@[simp] theorem writeIcr_result (v : Word) : (writeIcr v s).result = s.result := by
  unfold writeIcr; dsimp only; split <;> [skip; split] <;> simp
@[simp] theorem writeIcr_guest (v : Word) : (writeIcr v s).guest = s.guest := by
  unfold writeIcr; dsimp only; split <;> [skip; split] <;> simp
@[simp] theorem writeIcr_input (v : Word) : (writeIcr v s).input = s.input := by
  unfold writeIcr; dsimp only; split <;> [skip; split] <;> simp

@[simp] theorem writeIscr_router (v : Word) : (writeIscr v s).router = s.router := by
  simp [writeIscr]
@[simp] theorem writeIscr_clock (v : Word) : (writeIscr v s).clock = s.clock := by
  simp [writeIscr]
@[simp] theorem writeIscr_uart (v : Word) : (writeIscr v s).uart = s.uart := by
  simp [writeIscr]
@[simp] theorem writeIscr_now (v : Word) : (writeIscr v s).now = s.now := by
  simp [writeIscr]
@[simp] theorem writeIscr_cfg (v : Word) : (writeIscr v s).cfg = s.cfg := by
  simp [writeIscr]
@[simp] theorem writeIscr_diag (v : Word) : (writeIscr v s).diag = s.diag := by
  simp [writeIscr]
@[simp] theorem writeIscr_emitted (v : Word) : (writeIscr v s).emitted = s.emitted := by
  simp [writeIscr]
@[simp] theorem writeIscr_result (v : Word) : (writeIscr v s).result = s.result := by
  simp [writeIscr]
@[simp] theorem writeIscr_guest (v : Word) : (writeIscr v s).guest = s.guest := by
  simp [writeIscr]
@[simp] theorem writeIscr_input (v : Word) : (writeIscr v s).input = s.input := by
  simp [writeIscr]

@[simp] theorem fireAlarm_clock (a : Alarm) : (fireAlarm a s).clock = s.clock := by
  simp [fireAlarm]
@[simp] theorem fireAlarm_uart (a : Alarm) : (fireAlarm a s).uart = s.uart := by
  simp [fireAlarm]
@[simp] theorem fireAlarm_now (a : Alarm) : (fireAlarm a s).now = s.now := by
  simp [fireAlarm]
@[simp] theorem fireAlarm_cfg (a : Alarm) : (fireAlarm a s).cfg = s.cfg := by
  simp [fireAlarm]
@[simp] theorem fireAlarm_diag (a : Alarm) : (fireAlarm a s).diag = s.diag := by
  simp [fireAlarm]
@[simp] theorem fireAlarm_emitted (a : Alarm) : (fireAlarm a s).emitted = s.emitted := by
  simp [fireAlarm]
@[simp] theorem fireAlarm_result (a : Alarm) : (fireAlarm a s).result = s.result := by
  simp [fireAlarm]
@[simp] theorem fireAlarm_guest (a : Alarm) : (fireAlarm a s).guest = s.guest := by
  simp [fireAlarm]
@[simp] theorem fireAlarm_input (a : Alarm) : (fireAlarm a s).input = s.input := by
  simp [fireAlarm]

@[simp] theorem transmit_router (item : TxItem) (ans : Answer) : (transmit item ans s).router = s.router := by
  cases ans <;> simp [transmit]
@[simp] theorem transmit_clock (item : TxItem) (ans : Answer) : (transmit item ans s).clock = s.clock := by
  cases ans <;> simp [transmit]
@[simp] theorem transmit_timer (item : TxItem) (ans : Answer) : (transmit item ans s).timer = s.timer := by
  cases ans <;> simp [transmit]
@[simp] theorem transmit_now (item : TxItem) (ans : Answer) : (transmit item ans s).now = s.now := by
  cases ans <;> simp [transmit]
@[simp] theorem transmit_cfg (item : TxItem) (ans : Answer) : (transmit item ans s).cfg = s.cfg := by
  cases ans <;> simp [transmit]
@[simp] theorem transmit_diag (item : TxItem) (ans : Answer) : (transmit item ans s).diag = s.diag := by
  cases ans <;> simp [transmit]
@[simp] theorem transmit_result (item : TxItem) (ans : Answer) : (transmit item ans s).result = s.result := by
  cases ans <;> simp [transmit]
@[simp] theorem transmit_guest (item : TxItem) (ans : Answer) : (transmit item ans s).guest = s.guest := by
  cases ans <;> simp [transmit]
@[simp] theorem transmit_input (item : TxItem) (ans : Answer) : (transmit item ans s).input = s.input := by
  cases ans <;> simp [transmit]

@[simp] theorem sendItem_router (item : TxItem) (ans : Answer) : (sendItem item ans s).router = s.router := by
  unfold sendItem; split <;> [skip; split <;> [split; skip]] <;> simp
@[simp] theorem sendItem_clock (item : TxItem) (ans : Answer) : (sendItem item ans s).clock = s.clock := by
  unfold sendItem; split <;> [skip; split <;> [split; skip]] <;> simp
@[simp] theorem sendItem_timer (item : TxItem) (ans : Answer) : (sendItem item ans s).timer = s.timer := by
  unfold sendItem; split <;> [skip; split <;> [split; skip]] <;> simp
@[simp] theorem sendItem_now (item : TxItem) (ans : Answer) : (sendItem item ans s).now = s.now := by
  unfold sendItem; split <;> [skip; split <;> [split; skip]] <;> simp
@[simp] theorem sendItem_cfg (item : TxItem) (ans : Answer) : (sendItem item ans s).cfg = s.cfg := by
  unfold sendItem; split <;> [skip; split <;> [split; skip]] <;> simp
@[simp] theorem sendItem_diag (item : TxItem) (ans : Answer) : (sendItem item ans s).diag = s.diag := by
  unfold sendItem; split <;> [skip; split <;> [split; skip]] <;> simp
@[simp] theorem sendItem_result (item : TxItem) (ans : Answer) : (sendItem item ans s).result = s.result := by
  unfold sendItem; split <;> [skip; split <;> [split; skip]] <;> simp
@[simp] theorem sendItem_guest (item : TxItem) (ans : Answer) : (sendItem item ans s).guest = s.guest := by
  unfold sendItem; split <;> [skip; split <;> [split; skip]] <;> simp
@[simp] theorem sendItem_input (item : TxItem) (ans : Answer) : (sendItem item ans s).input = s.input := by
  unfold sendItem; split <;> [skip; split <;> [split; skip]] <;> simp

@[simp] theorem writeBlkLen_router (ans : Answer) (v : Word) : (writeBlkLen ans v s).router = s.router := by
  unfold writeBlkLen; split <;> simp
@[simp] theorem writeBlkLen_clock (ans : Answer) (v : Word) : (writeBlkLen ans v s).clock = s.clock := by
  unfold writeBlkLen; split <;> simp
@[simp] theorem writeBlkLen_timer (ans : Answer) (v : Word) : (writeBlkLen ans v s).timer = s.timer := by
  unfold writeBlkLen; split <;> simp
@[simp] theorem writeBlkLen_now (ans : Answer) (v : Word) : (writeBlkLen ans v s).now = s.now := by
  unfold writeBlkLen; split <;> simp
@[simp] theorem writeBlkLen_cfg (ans : Answer) (v : Word) : (writeBlkLen ans v s).cfg = s.cfg := by
  unfold writeBlkLen; split <;> simp
@[simp] theorem writeBlkLen_diag (ans : Answer) (v : Word) : (writeBlkLen ans v s).diag = s.diag := by
  unfold writeBlkLen; split <;> simp
@[simp] theorem writeBlkLen_result (ans : Answer) (v : Word) : (writeBlkLen ans v s).result = s.result := by
  unfold writeBlkLen; split <;> simp
@[simp] theorem writeBlkLen_guest (ans : Answer) (v : Word) : (writeBlkLen ans v s).guest = s.guest := by
  unfold writeBlkLen; split <;> simp
@[simp] theorem writeBlkLen_input (ans : Answer) (v : Word) : (writeBlkLen ans v s).input = s.input := by
  unfold writeBlkLen; split <;> simp

@[simp] theorem writeRxfifocon_router (v : Word) : (writeRxfifocon v s).router = s.router := by
  unfold writeRxfifocon; split <;> split <;> simp
@[simp] theorem writeRxfifocon_clock (v : Word) : (writeRxfifocon v s).clock = s.clock := by
  unfold writeRxfifocon; split <;> split <;> simp
@[simp] theorem writeRxfifocon_timer (v : Word) : (writeRxfifocon v s).timer = s.timer := by
  unfold writeRxfifocon; split <;> split <;> simp
@[simp] theorem writeRxfifocon_now (v : Word) : (writeRxfifocon v s).now = s.now := by
  unfold writeRxfifocon; split <;> split <;> simp
@[simp] theorem writeRxfifocon_cfg (v : Word) : (writeRxfifocon v s).cfg = s.cfg := by
  unfold writeRxfifocon; split <;> split <;> simp
@[simp] theorem writeRxfifocon_diag (v : Word) : (writeRxfifocon v s).diag = s.diag := by
  unfold writeRxfifocon; split <;> split <;> simp
@[simp] theorem writeRxfifocon_result (v : Word) : (writeRxfifocon v s).result = s.result := by
  unfold writeRxfifocon; split <;> split <;> simp
@[simp] theorem writeRxfifocon_guest (v : Word) : (writeRxfifocon v s).guest = s.guest := by
  unfold writeRxfifocon; split <;> split <;> simp
@[simp] theorem writeRxfifocon_input (v : Word) : (writeRxfifocon v s).input = s.input := by
  unfold writeRxfifocon; split <;> split <;> simp

@[simp] theorem advanceRx_router : (advanceRx s).router = s.router := by
  simp [advanceRx]
@[simp] theorem advanceRx_clock : (advanceRx s).clock = s.clock := by
  simp [advanceRx]
@[simp] theorem advanceRx_timer : (advanceRx s).timer = s.timer := by
  simp [advanceRx]
@[simp] theorem advanceRx_now : (advanceRx s).now = s.now := by
  simp [advanceRx]
@[simp] theorem advanceRx_cfg : (advanceRx s).cfg = s.cfg := by
  simp [advanceRx]
@[simp] theorem advanceRx_diag : (advanceRx s).diag = s.diag := by
  simp [advanceRx]
@[simp] theorem advanceRx_emitted : (advanceRx s).emitted = s.emitted := by
  simp [advanceRx]
@[simp] theorem advanceRx_result : (advanceRx s).result = s.result := by
  simp [advanceRx]
@[simp] theorem advanceRx_guest : (advanceRx s).guest = s.guest := by
  simp [advanceRx]
@[simp] theorem advanceRx_input : (advanceRx s).input = s.input := by
  simp [advanceRx]

@[simp] theorem receive_clock (bytes : List Byte) : (receive bytes s).clock = s.clock := by
  simp [receive]
@[simp] theorem receive_timer (bytes : List Byte) : (receive bytes s).timer = s.timer := by
  simp [receive]
@[simp] theorem receive_now (bytes : List Byte) : (receive bytes s).now = s.now := by
  simp [receive]
@[simp] theorem receive_cfg (bytes : List Byte) : (receive bytes s).cfg = s.cfg := by
  simp [receive]
@[simp] theorem receive_emitted (bytes : List Byte) : (receive bytes s).emitted = s.emitted := by
  simp [receive]
@[simp] theorem receive_result (bytes : List Byte) : (receive bytes s).result = s.result := by
  simp [receive]
@[simp] theorem receive_guest (bytes : List Byte) : (receive bytes s).guest = s.guest := by
  simp [receive]
@[simp] theorem receive_input (bytes : List Byte) : (receive bytes s).input = s.input := by
  simp [receive]

@[simp] theorem resetRouter_clock : (resetRouter s).clock = s.clock := by
  simp [resetRouter]
@[simp] theorem resetRouter_timer : (resetRouter s).timer = s.timer := by
  simp [resetRouter]
@[simp] theorem resetRouter_uart : (resetRouter s).uart = s.uart := by
  simp [resetRouter]
@[simp] theorem resetRouter_now : (resetRouter s).now = s.now := by
  simp [resetRouter]
@[simp] theorem resetRouter_cfg : (resetRouter s).cfg = s.cfg := by
  simp [resetRouter]
@[simp] theorem resetRouter_diag : (resetRouter s).diag = s.diag := by
  simp [resetRouter]
@[simp] theorem resetRouter_emitted : (resetRouter s).emitted = s.emitted := by
  simp [resetRouter]
@[simp] theorem resetRouter_result : (resetRouter s).result = s.result := by
  simp [resetRouter]
@[simp] theorem resetRouter_guest : (resetRouter s).guest = s.guest := by
  simp [resetRouter]
@[simp] theorem resetRouter_input : (resetRouter s).input = s.input := by
  simp [resetRouter]

@[simp] theorem resetClock_router : (resetClock s).router = s.router := by
  simp [resetClock]
@[simp] theorem resetClock_timer : (resetClock s).timer = s.timer := by
  simp [resetClock]
@[simp] theorem resetClock_uart : (resetClock s).uart = s.uart := by
  simp [resetClock]
@[simp] theorem resetClock_now : (resetClock s).now = s.now := by
  simp [resetClock]
@[simp] theorem resetClock_cfg : (resetClock s).cfg = s.cfg := by
  simp [resetClock]
@[simp] theorem resetClock_diag : (resetClock s).diag = s.diag := by
  simp [resetClock]
@[simp] theorem resetClock_emitted : (resetClock s).emitted = s.emitted := by
  simp [resetClock]
@[simp] theorem resetClock_result : (resetClock s).result = s.result := by
  simp [resetClock]
@[simp] theorem resetClock_guest : (resetClock s).guest = s.guest := by
  simp [resetClock]
@[simp] theorem resetClock_input : (resetClock s).input = s.input := by
  simp [resetClock]

@[simp] theorem resetTimer_clock : (resetTimer s).clock = s.clock := by
  simp [resetTimer]
@[simp] theorem resetTimer_uart : (resetTimer s).uart = s.uart := by
  simp [resetTimer]
@[simp] theorem resetTimer_now : (resetTimer s).now = s.now := by
  simp [resetTimer]
@[simp] theorem resetTimer_cfg : (resetTimer s).cfg = s.cfg := by
  simp [resetTimer]
@[simp] theorem resetTimer_diag : (resetTimer s).diag = s.diag := by
  simp [resetTimer]
@[simp] theorem resetTimer_emitted : (resetTimer s).emitted = s.emitted := by
  simp [resetTimer]
@[simp] theorem resetTimer_result : (resetTimer s).result = s.result := by
  simp [resetTimer]
@[simp] theorem resetTimer_guest : (resetTimer s).guest = s.guest := by
  simp [resetTimer]
@[simp] theorem resetTimer_input : (resetTimer s).input = s.input := by
  simp [resetTimer]

@[simp] theorem resetUart_clock : (resetUart s).clock = s.clock := by
  simp [resetUart]
@[simp] theorem resetUart_timer : (resetUart s).timer = s.timer := by
  simp [resetUart]
@[simp] theorem resetUart_now : (resetUart s).now = s.now := by
  simp [resetUart]
@[simp] theorem resetUart_cfg : (resetUart s).cfg = s.cfg := by
  simp [resetUart]
@[simp] theorem resetUart_diag : (resetUart s).diag = s.diag := by
  simp [resetUart]
@[simp] theorem resetUart_emitted : (resetUart s).emitted = s.emitted := by
  simp [resetUart]
@[simp] theorem resetUart_result : (resetUart s).result = s.result := by
  simp [resetUart]
@[simp] theorem resetUart_guest : (resetUart s).guest = s.guest := by
  simp [resetUart]
@[simp] theorem resetUart_input : (resetUart s).input = s.input := by
  simp [resetUart]

@[simp] theorem resetUnit_now (u : UnitId) : (resetUnit u s).now = s.now := by
  cases u <;> simp [resetUnit]
@[simp] theorem resetUnit_cfg (u : UnitId) : (resetUnit u s).cfg = s.cfg := by
  cases u <;> simp [resetUnit]
@[simp] theorem resetUnit_diag (u : UnitId) : (resetUnit u s).diag = s.diag := by
  cases u <;> simp [resetUnit]
@[simp] theorem resetUnit_emitted (u : UnitId) : (resetUnit u s).emitted = s.emitted := by
  cases u <;> simp [resetUnit]
@[simp] theorem resetUnit_result (u : UnitId) : (resetUnit u s).result = s.result := by
  cases u <;> simp [resetUnit]
@[simp] theorem resetUnit_guest (u : UnitId) : (resetUnit u s).guest = s.guest := by
  cases u <;> simp [resetUnit]
@[simp] theorem resetUnit_input (u : UnitId) : (resetUnit u s).input = s.input := by
  cases u <;> simp [resetUnit]

@[simp] theorem resetAll_now : (resetAll s).now = s.now := by
  simp [resetAll]
@[simp] theorem resetAll_cfg : (resetAll s).cfg = s.cfg := by
  simp [resetAll]
@[simp] theorem resetAll_diag : (resetAll s).diag = s.diag := by
  simp [resetAll]
@[simp] theorem resetAll_emitted : (resetAll s).emitted = s.emitted := by
  simp [resetAll]
@[simp] theorem resetAll_result : (resetAll s).result = s.result := by
  simp [resetAll]
@[simp] theorem resetAll_guest : (resetAll s).guest = s.guest := by
  simp [resetAll]
@[simp] theorem resetAll_input : (resetAll s).input = s.input := by
  simp [resetAll]

@[simp] theorem restore_cfg (b : Block) : (restore b s).cfg = s.cfg := rfl
@[simp] theorem restore_diag (b : Block) : (restore b s).diag = s.diag := rfl
@[simp] theorem restore_emitted (b : Block) : (restore b s).emitted = s.emitted := rfl
@[simp] theorem restore_result (b : Block) : (restore b s).result = s.result := rfl
@[simp] theorem restore_guest (b : Block) : (restore b s).guest = s.guest := rfl
@[simp] theorem restore_input (b : Block) : (restore b s).input = s.input := rfl

@[simp] theorem resetRouter_router : (resetRouter s).router = Router.resetValue := rfl
@[simp] theorem resetClock_clock : (resetClock s).clock = Clock.resetValue s.clock.pllLocked := rfl
@[simp] theorem resetTimer_timer : (resetTimer s).timer = Timer.resetValue s.now := by
  simp [resetTimer]
@[simp] theorem resetUart_uart : (resetUart s).uart = Uart.resetValue := by
  simp [resetUart]
@[simp] theorem resetAll_router : (resetAll s).router = Router.resetValue := rfl
@[simp] theorem resetAll_clock : (resetAll s).clock = Clock.resetValue s.clock.pllLocked := by
  simp [resetAll]
@[simp] theorem resetAll_timer : (resetAll s).timer = Timer.resetValue s.now := by
  simp [resetAll]
@[simp] theorem resetAll_uart : (resetAll s).uart = Uart.resetValue := by
  simp [resetAll]
@[simp] theorem cancelAlarm_timer : (cancelAlarm s).timer = { s.timer with alarm := none } := rfl

/-- A reset router's output agrees with its sources: none is pending. -/
theorem routerOutputAgrees_resetValue (h : s.router = Router.resetValue) : RouterOutputAgrees s := by
  have hno : ∀ i, ¬ SourceQualifies s i := by
    intro i hi
    have := hi.1
    simp [h, Source.cleared] at this
  refine ⟨?_, fun i hi => absurd hi.1 (hno i)⟩
  simp only [h, Router.resetValue, Bool.false_eq_true, false_iff, not_exists]
  exact hno

/-- Everything arming a channel can do to the alarm: none where the channel is off or the timer domain stands still, else the
deadline of R317. -/
theorem arm_alarm_cases (c : Channel) :
    (((s.timer.chan c).en = false ∨ timerFrequency s = 0) ∧ (arm c s).timer.alarm = none) ∨
      ((s.timer.chan c).en = true ∧ 0 < timerFrequency s ∧
        (arm c s).timer.alarm = some { deadline := deadlineFor c (timerFrequency s) s, ch := c }) := by
  by_cases he : (s.timer.chan c).en = true
  · by_cases hf : timerFrequency s > 0
    · right
      simp [arm, armedAlarm, he, hf]
    · left
      have h0 : timerFrequency s = 0 := by omega
      simp [arm, armedAlarm, he, h0]
  · left
    simp [arm, he]

/-- Arming changes nothing of the timer but its alarm. -/
theorem arm_timer (c : Channel) : (arm c s).timer = { s.timer with alarm := (arm c s).timer.alarm } := by
  unfold arm
  split <;> simp

/-- Everything the dispatch of a transmit item can do (R368). -/
theorem sendItem_cases (item : TxItem) (ans : Answer) :
    (s.cfg.transportPresent = false ∧ sendItem item ans s = s.onUart (orFlags flagTc)) ∨
      (s.cfg.transportPresent = true ∧ s.uart.retryArmed = true ∧ s.cfg.txBusy = .overwrite ∧
        sendItem item ans s = s.onUart fun u => { u with txPend := some item }) ∨
      (s.cfg.transportPresent = true ∧ s.uart.retryArmed = true ∧ s.cfg.txBusy = .drop ∧ sendItem item ans s = s) ∨
      (s.cfg.transportPresent = true ∧ s.uart.retryArmed = false ∧ sendItem item ans s = transmit item ans s) := by
  cases ht : s.cfg.transportPresent
  · simp [sendItem, ht]
  · cases hr : s.uart.retryArmed
    · simp [sendItem, ht, hr]
    · cases hb : s.cfg.txBusy <;> simp [sendItem, ht, hr, hb]

/-- Everything a delivery attempt can do to the UART (R387). -/
theorem transmit_uart (item : TxItem) (ans : Answer) :
    (transmit item ans s).uart =
      match ans with
      | .accepted => { s.uart with txPend := none, retryArmed := false, flags := s.uart.flags ||| flagTc }
      | .wouldBlock => { s.uart with txPend := some item, retryArmed := true } := by
  cases ans <;> rfl

theorem ringUsed_lt (u : Uart) : ringUsed u < 8192 := (u.wr - u.rd).isLt

/-- A byte pushed into a ring that is not full adds one to the count (R389). -/
theorem ringUsed_pushByte (b : Byte) (u : Uart) (h : 0 < ringFree u) : ringUsed (pushByte b u) = ringUsed u + 1 := by
  have hlt := ringUsed_lt u
  have hf : ringUsed u < 8191 := by unfold ringFree at h; omega
  unfold ringUsed pushByte at *
  simp only [Fin.sub_def, Fin.add_def] at *
  have h1 := u.wr.isLt
  have h2 := u.rd.isLt
  have e1 : (1 : Fin 8192).val = 1 := rfl
  simp only [e1] at *
  omega

/-- A burst that fits drops nothing (R389, R394). -/
theorem pushBurst_fits (bytes : List Byte) (u : Uart) (h : bytes.length ≤ ringFree u) :
    (pushBurst bytes u).2 = 0 ∧ ringUsed (pushBurst bytes u).1 = ringUsed u + bytes.length := by
  induction bytes generalizing u with
  | nil => simp [pushBurst]
  | cons b rest ih =>
    have hpos : 0 < ringFree u := by simp at h; omega
    have hu := ringUsed_pushByte b u hpos
    have hle : rest.length ≤ ringFree (pushByte b u) := by
      unfold ringFree at *
      simp at h
      omega
    have := ih (pushByte b u) hle
    simp only [pushBurst, hpos, if_true, this.1, this.2, List.length_cons, true_and]
    omega

/-- A burst into a full ring drops all its bytes (R389). -/
theorem pushBurst_full (bytes : List Byte) (u : Uart) (h : ringFree u = 0) : pushBurst bytes u = (u, bytes.length) := by
  induction bytes with
  | nil => rfl
  | cons b rest ih => simp [pushBurst, h, ih]

/-- A burst is its fitting prefix, and the rest dropped: drop-new (R389, R394). -/
theorem pushBurst_append (front back : List Byte) (u : Uart) (h : front.length ≤ ringFree u) :
    pushBurst (front ++ back) u = pushBurst back (pushBurst front u).1 := by
  induction front generalizing u with
  | nil => rfl
  | cons b rest ih =>
    have hpos : 0 < ringFree u := by simp at h; omega
    have hu := ringUsed_pushByte b u hpos
    have hle : rest.length ≤ ringFree (pushByte b u) := by
      unfold ringFree at *
      simp at h
      omega
    simp only [List.cons_append, pushBurst, hpos, if_true]
    exact ih _ hle

/-- A burst changes nothing of the UART but the ring and the write cursor (R389). -/
theorem pushBurst_frame (bytes : List Byte) (u : Uart) :
    (pushBurst bytes u).1 = { u with ring := (pushBurst bytes u).1.ring, wr := (pushBurst bytes u).1.wr } := by
  induction bytes generalizing u with
  | nil => rfl
  | cons b rest ih =>
    by_cases h : ringFree u > 0
    · simp only [pushBurst, h, if_true]
      rw [ih (pushByte b u)]
      rfl
    · simp only [pushBurst, h, if_false]
      exact ih u

/-- A burst keeps the ring's canonical form. -/
theorem pushBurst_ring (bytes : List Byte) (u : Uart) (h : Memory.wf u.ring = true ∧ Memory.below u.ring 8192 = true) :
    Memory.wf (pushBurst bytes u).1.ring = true ∧ Memory.below (pushBurst bytes u).1.ring 8192 = true := by
  induction bytes generalizing u with
  | nil => exact h
  | cons b rest ih =>
    by_cases hf : ringFree u > 0
    · simp only [pushBurst, hf, if_true]
      exact ih _ ⟨Memory.wf_write _ _ _ h.1, Memory.below_write _ _ _ _ u.wr.isLt h.2⟩
    · simp only [pushBurst, hf, if_false]
      exact ih _ h

end Sys2Proof.Machine
end

