-- ==== Sys2Proof/Laws/Exec.lean ====
section
/-! SUPPORT. Everything an operation can do, said once: a bus access is the read or write of a declared register, with one of the effects
listed here, or an undeclared access; anything else is one of the ten events. Proofs about every operation go by these cases and
never unfold `exec`. -/

namespace Sys2Proof.Machine

/-- What the read of a register of unit `u` can do beside returning its value (R90). -/
inductive ReadEffect : UnitId → (State → State) → Prop where
  | quiet (u : UnitId) : ReadEffect u id
  | captureCap : ReadEffect .stm captureCap
  | captureCapsv : ReadEffect .stm captureCapsv
  | reportTap : ReadEffect .stm reportTap
  | advanceRx : ReadEffect .uart advanceRx

/-- What the write of a register of unit `u` can do with the merged word, in a block with the parameters `p` (R91). -/
inductive WriteEffect (p : Params) : UnitId → (Word → State → State) → Prop where
  | ignored (u : UnitId) : WriteEffect p u ignoreWrite
  | source (i : SourceIndex) :
      WriteEffect p .ir fun v s => evaluate (s.onRouter fun r => r.setSource i (configureSource v (r.source i)))
  | pllcon0 : WriteEffect p .ccu writePllcon0
  | pllcon1 : WriteEffect p .ccu fun v s => s.onClock fun c => { c with pllcon1 := v }
  | ccucon0 : WriteEffect p .ccu writeCcucon0
  | ccucon1 : WriteEffect p .ccu fun v s => s.onClock fun c => { c with ccucon1 := v, updPending := true }
  | timerWord (f : Word → Timer → Timer)
      (h : ∀ v t, (f v t).cmp0 = t.cmp0 ∧ (f v t).cmp1 = t.cmp1 ∧ (f v t).cap = t.cap ∧ (f v t).capsv = t.capsv ∧
        (f v t).t0 = t.t0 ∧ (f v t).alarm = t.alarm) : WriteEffect p .stm fun v s => s.onTimer (f v)
  | compare (c : Channel) : WriteEffect p .stm (writeCompare c)
  | icr : WriteEffect p .stm writeIcr
  | iscr : WriteEffect p .stm writeIscr
  | uartWord (f : Word → Uart → Uart)
      (h : ∀ v u, (f v u).txfifocon = u.txfifocon ∧ (f v u).rxfifocon = u.rxfifocon ∧ (f v u).flags = u.flags ∧
        (f v u).ring = u.ring ∧ (f v u).wr = u.wr ∧ (f v u).rd = u.rd ∧ (f v u).txPend = u.txPend ∧
        (f v u).retryArmed = u.retryArmed ∧ (f v u).blkLen = u.blkLen ∧ (f v u).blkAddr = u.blkAddr) :
      WriteEffect p .uart fun v s => s.onUart (f v)
  | txfifocon : WriteEffect p .uart fun v s => s.onUart fun u => { u with txfifocon := v &&& ~~~1#32 }
  | rxfifocon : WriteEffect p .uart writeRxfifocon
  | flagsset : WriteEffect p .uart fun v s => s.onUart (orFlags (v &&& flagsStored))
  | flagsclear : WriteEffect p .uart fun v s => s.onUart (clearFlags (v &&& flagsStored))
  | txdata (ans : Answer) : WriteEffect p .uart fun v s => sendItem (.byte (v.extractLsb' 0 8)) ans s
  | blkAddr (h : p.blkPresent = true) : WriteEffect p .uart fun v s => s.onUart fun u => { u with blkAddr := v }
  | blkLen (h : p.blkPresent = true) (ans : Answer) : WriteEffect p .uart (writeBlkLen ans)

/-- Everything a bus access of direction `d` and size `sz` at the offset `off` of unit `u` can be. -/
inductive BusMeaning (d : Dir) (sz : Size) (u : UnitId) (off : Offset) (s : State) : Outcome → Prop where
  | read (w : Nat) (lane : Lane) (cur : State → Word) (eff : State → State) (hd : d = .read) (ho : w + lane.val = off.val)
      (he : ReadEffect u eff) : BusMeaning d sz u off s (readReg u w sz lane cur eff s)
  | write (w : Nat) (lane : Lane) (data : Word) (cur : State → Word) (eff : Word → State → State) (hd : d = .write)
      (ho : w + lane.val = off.val) (he : WriteEffect s.cfg u eff) : BusMeaning d sz u off s (writeReg u w sz lane data cur eff s)
  | undeclaredRead (hd : d = .read) : BusMeaning d sz u off s (readUndeclared u sz off s)
  | undeclaredWrite (hd : d = .write) : BusMeaning d sz u off s (writeUndeclared u sz off s)

theorem offsetOf_val (w : Nat) (lane : Lane) (h : w ≤ 4092) : w + lane.val = (offsetOf w lane).val := by
  have := lane.isLt
  simp only [offsetOf, Fin.ofNat_eq_cast, Fin.val_natCast]
  omega

theorem wordOffset_laneOf (off : Offset) : wordOffset off + (laneOf off).val = off.val := by
  have := off.isLt
  simp only [wordOffset, laneOf, Fin.ofNat_eq_cast, Fin.val_natCast]
  omega

theorem blkRegAt_present {p : Params} {off : Offset} {r : BlkReg} (h : blkRegAt p off = some r) : p.blkPresent = true := by
  unfold blkRegAt at h
  split at h
  · assumption
  · cases h

/-- The operation is a bus access. -/
def IsBus (i : Instr) : Prop := ∃ d sz u off, i.form = .bus d sz u off

/-- Everything an operation can be: a bus access, or one of the ten events. -/
theorem bus_or_event (i : Instr) :
    IsBus i ∨ (∃ u, i = .evReset u) ∨ i = .evResetAll ∨ (∃ delta, i = .evTime delta) ∨ i = .evAlarm ∨ (∃ bytes, i = .evRx bytes) ∨
      (∃ ans, i = .evWritable ans) ∨ (∃ l, i = .evLock l) ∨ (∃ j l, i = .evLevel j l) ∨ i = .evSnapshot ∨
      ∃ blob, i = .evRestore blob := by
  cases i
  case evReset => exact .inr (.inl ⟨_, rfl⟩)
  case evResetAll => exact .inr (.inr (.inl rfl))
  case evTime => exact .inr (.inr (.inr (.inl ⟨_, rfl⟩)))
  case evAlarm => exact .inr (.inr (.inr (.inr (.inl rfl))))
  case evRx => exact .inr (.inr (.inr (.inr (.inr (.inl ⟨_, rfl⟩)))))
  case evWritable => exact .inr (.inr (.inr (.inr (.inr (.inr (.inl ⟨_, rfl⟩))))))
  case evLock => exact .inr (.inr (.inr (.inr (.inr (.inr (.inr (.inl ⟨_, rfl⟩)))))))
  case evLevel => exact .inr (.inr (.inr (.inr (.inr (.inr (.inr (.inr (.inl ⟨_, _, rfl⟩))))))))
  case evSnapshot => exact .inr (.inr (.inr (.inr (.inr (.inr (.inr (.inr (.inr (.inl rfl)))))))))
  case evRestore => exact .inr (.inr (.inr (.inr (.inr (.inr (.inr (.inr (.inr (.inr (⟨_, rfl⟩))))))))))
  all_goals exact .inl ⟨_, _, _, _, rfl⟩

theorem busMeaning_rdIrSrc (i : SourceIndex) (sz : Size) (lane : Lane) (s : State) :
    BusMeaning .read sz .ir (offsetOf (4 * i.val) lane) s (exec (.rdIrSrc i sz lane) s) := by
  show BusMeaning _ _ _ _ _ (execRdIrSrc i sz lane s)
  unfold execRdIrSrc
  exact .read (4 * i.val) lane _ _ rfl (offsetOf_val _ _ (by have := i.isLt; omega)) (.quiet _)

theorem busMeaning_wrIrSrc (i : SourceIndex) (sz : Size) (lane : Lane) (data : Word) (s : State) :
    BusMeaning .write sz .ir (offsetOf (4 * i.val) lane) s (exec (.wrIrSrc i sz lane data) s) := by
  show BusMeaning _ _ _ _ _ (execWrIrSrc i sz lane data s)
  unfold execWrIrSrc
  exact .write (4 * i.val) lane _ _ _ rfl (offsetOf_val _ _ (by have := i.isLt; omega)) (.source _)

theorem busMeaning_rdCcuPllstat (sz : Size) (lane : Lane) (s : State) :
    BusMeaning .read sz .ccu (offsetOf 0x14 lane) s (exec (.rdCcuPllstat sz lane) s) := by
  show BusMeaning _ _ _ _ _ (execRdCcuPllstat sz lane s)
  unfold execRdCcuPllstat
  exact .read 0x14 lane _ _ rfl (offsetOf_val _ _ (by decide)) (.quiet _)

theorem busMeaning_wrCcuPllstat (sz : Size) (lane : Lane) (data : Word) (s : State) :
    BusMeaning .write sz .ccu (offsetOf 0x14 lane) s (exec (.wrCcuPllstat sz lane data) s) := by
  show BusMeaning _ _ _ _ _ (execWrCcuPllstat sz lane data s)
  unfold execWrCcuPllstat
  exact .write 0x14 lane _ _ _ rfl (offsetOf_val _ _ (by decide)) (.ignored _)

theorem busMeaning_rdCcuPllcon0 (sz : Size) (lane : Lane) (s : State) :
    BusMeaning .read sz .ccu (offsetOf 0x18 lane) s (exec (.rdCcuPllcon0 sz lane) s) := by
  show BusMeaning _ _ _ _ _ (execRdCcuPllcon0 sz lane s)
  unfold execRdCcuPllcon0
  exact .read 0x18 lane _ _ rfl (offsetOf_val _ _ (by decide)) (.quiet _)

theorem busMeaning_wrCcuPllcon0 (sz : Size) (lane : Lane) (data : Word) (s : State) :
    BusMeaning .write sz .ccu (offsetOf 0x18 lane) s (exec (.wrCcuPllcon0 sz lane data) s) := by
  show BusMeaning _ _ _ _ _ (execWrCcuPllcon0 sz lane data s)
  unfold execWrCcuPllcon0
  exact .write 0x18 lane _ _ _ rfl (offsetOf_val _ _ (by decide)) .pllcon0

theorem busMeaning_rdCcuPllcon1 (sz : Size) (lane : Lane) (s : State) :
    BusMeaning .read sz .ccu (offsetOf 0x1C lane) s (exec (.rdCcuPllcon1 sz lane) s) := by
  show BusMeaning _ _ _ _ _ (execRdCcuPllcon1 sz lane s)
  unfold execRdCcuPllcon1
  exact .read 0x1C lane _ _ rfl (offsetOf_val _ _ (by decide)) (.quiet _)

theorem busMeaning_wrCcuPllcon1 (sz : Size) (lane : Lane) (data : Word) (s : State) :
    BusMeaning .write sz .ccu (offsetOf 0x1C lane) s (exec (.wrCcuPllcon1 sz lane data) s) := by
  show BusMeaning _ _ _ _ _ (execWrCcuPllcon1 sz lane data s)
  unfold execWrCcuPllcon1
  exact .write 0x1C lane _ _ _ rfl (offsetOf_val _ _ (by decide)) .pllcon1

theorem busMeaning_rdCcuCcucon0 (sz : Size) (lane : Lane) (s : State) :
    BusMeaning .read sz .ccu (offsetOf 0x30 lane) s (exec (.rdCcuCcucon0 sz lane) s) := by
  show BusMeaning _ _ _ _ _ (execRdCcuCcucon0 sz lane s)
  unfold execRdCcuCcucon0
  exact .read 0x30 lane _ _ rfl (offsetOf_val _ _ (by decide)) (.quiet _)

theorem busMeaning_wrCcuCcucon0 (sz : Size) (lane : Lane) (data : Word) (s : State) :
    BusMeaning .write sz .ccu (offsetOf 0x30 lane) s (exec (.wrCcuCcucon0 sz lane data) s) := by
  show BusMeaning _ _ _ _ _ (execWrCcuCcucon0 sz lane data s)
  unfold execWrCcuCcucon0
  exact .write 0x30 lane _ _ _ rfl (offsetOf_val _ _ (by decide)) .ccucon0

theorem busMeaning_rdCcuCcucon1 (sz : Size) (lane : Lane) (s : State) :
    BusMeaning .read sz .ccu (offsetOf 0x34 lane) s (exec (.rdCcuCcucon1 sz lane) s) := by
  show BusMeaning _ _ _ _ _ (execRdCcuCcucon1 sz lane s)
  unfold execRdCcuCcucon1
  exact .read 0x34 lane _ _ rfl (offsetOf_val _ _ (by decide)) (.quiet _)

theorem busMeaning_wrCcuCcucon1 (sz : Size) (lane : Lane) (data : Word) (s : State) :
    BusMeaning .write sz .ccu (offsetOf 0x34 lane) s (exec (.wrCcuCcucon1 sz lane data) s) := by
  show BusMeaning _ _ _ _ _ (execWrCcuCcucon1 sz lane data s)
  unfold execWrCcuCcucon1
  exact .write 0x34 lane _ _ _ rfl (offsetOf_val _ _ (by decide)) .ccucon1

theorem busMeaning_rdStmClc (sz : Size) (lane : Lane) (s : State) :
    BusMeaning .read sz .stm (offsetOf 0x00 lane) s (exec (.rdStmClc sz lane) s) := by
  show BusMeaning _ _ _ _ _ (execRdStmClc sz lane s)
  unfold execRdStmClc
  exact .read 0x00 lane _ _ rfl (offsetOf_val _ _ (by decide)) (.quiet _)

theorem busMeaning_wrStmClc (sz : Size) (lane : Lane) (data : Word) (s : State) :
    BusMeaning .write sz .stm (offsetOf 0x00 lane) s (exec (.wrStmClc sz lane data) s) := by
  show BusMeaning _ _ _ _ _ (execWrStmClc sz lane data s)
  unfold execWrStmClc
  exact .write 0x00 lane _ _ _ rfl (offsetOf_val _ _ (by decide)) (.timerWord (fun v t => { t with clc := v }) (fun _ _ => ⟨rfl, rfl, rfl, rfl, rfl, rfl⟩))

theorem busMeaning_rdStmId (sz : Size) (lane : Lane) (s : State) :
    BusMeaning .read sz .stm (offsetOf 0x08 lane) s (exec (.rdStmId sz lane) s) := by
  show BusMeaning _ _ _ _ _ (execRdStmId sz lane s)
  unfold execRdStmId
  exact .read 0x08 lane _ _ rfl (offsetOf_val _ _ (by decide)) (.quiet _)

theorem busMeaning_wrStmId (sz : Size) (lane : Lane) (data : Word) (s : State) :
    BusMeaning .write sz .stm (offsetOf 0x08 lane) s (exec (.wrStmId sz lane data) s) := by
  show BusMeaning _ _ _ _ _ (execWrStmId sz lane data s)
  unfold execWrStmId
  exact .write 0x08 lane _ _ _ rfl (offsetOf_val _ _ (by decide)) (.ignored _)

theorem busMeaning_rdStmTim0 (sz : Size) (lane : Lane) (s : State) :
    BusMeaning .read sz .stm (offsetOf 0x10 lane) s (exec (.rdStmTim0 sz lane) s) := by
  show BusMeaning _ _ _ _ _ (execRdStmTim0 sz lane s)
  unfold execRdStmTim0
  exact .read 0x10 lane _ _ rfl (offsetOf_val _ _ (by decide)) .captureCap

theorem busMeaning_wrStmTim0 (sz : Size) (lane : Lane) (data : Word) (s : State) :
    BusMeaning .write sz .stm (offsetOf 0x10 lane) s (exec (.wrStmTim0 sz lane data) s) := by
  show BusMeaning _ _ _ _ _ (execWrStmTim0 sz lane data s)
  unfold execWrStmTim0
  exact .write 0x10 lane _ _ _ rfl (offsetOf_val _ _ (by decide)) (.ignored _)

theorem busMeaning_rdStmTim1 (sz : Size) (lane : Lane) (s : State) :
    BusMeaning .read sz .stm (offsetOf 0x14 lane) s (exec (.rdStmTim1 sz lane) s) := by
  show BusMeaning _ _ _ _ _ (execRdStmTim1 sz lane s)
  unfold execRdStmTim1
  exact .read 0x14 lane _ _ rfl (offsetOf_val _ _ (by decide)) .captureCap

theorem busMeaning_wrStmTim1 (sz : Size) (lane : Lane) (data : Word) (s : State) :
    BusMeaning .write sz .stm (offsetOf 0x14 lane) s (exec (.wrStmTim1 sz lane data) s) := by
  show BusMeaning _ _ _ _ _ (execWrStmTim1 sz lane data s)
  unfold execWrStmTim1
  exact .write 0x14 lane _ _ _ rfl (offsetOf_val _ _ (by decide)) (.ignored _)

theorem busMeaning_rdStmTim2 (sz : Size) (lane : Lane) (s : State) :
    BusMeaning .read sz .stm (offsetOf 0x18 lane) s (exec (.rdStmTim2 sz lane) s) := by
  show BusMeaning _ _ _ _ _ (execRdStmTim2 sz lane s)
  unfold execRdStmTim2
  exact .read 0x18 lane _ _ rfl (offsetOf_val _ _ (by decide)) .captureCap

theorem busMeaning_wrStmTim2 (sz : Size) (lane : Lane) (data : Word) (s : State) :
    BusMeaning .write sz .stm (offsetOf 0x18 lane) s (exec (.wrStmTim2 sz lane data) s) := by
  show BusMeaning _ _ _ _ _ (execWrStmTim2 sz lane data s)
  unfold execWrStmTim2
  exact .write 0x18 lane _ _ _ rfl (offsetOf_val _ _ (by decide)) (.ignored _)

theorem busMeaning_rdStmTim3 (sz : Size) (lane : Lane) (s : State) :
    BusMeaning .read sz .stm (offsetOf 0x1C lane) s (exec (.rdStmTim3 sz lane) s) := by
  show BusMeaning _ _ _ _ _ (execRdStmTim3 sz lane s)
  unfold execRdStmTim3
  exact .read 0x1C lane _ _ rfl (offsetOf_val _ _ (by decide)) .captureCap

theorem busMeaning_wrStmTim3 (sz : Size) (lane : Lane) (data : Word) (s : State) :
    BusMeaning .write sz .stm (offsetOf 0x1C lane) s (exec (.wrStmTim3 sz lane data) s) := by
  show BusMeaning _ _ _ _ _ (execWrStmTim3 sz lane data s)
  unfold execWrStmTim3
  exact .write 0x1C lane _ _ _ rfl (offsetOf_val _ _ (by decide)) (.ignored _)

theorem busMeaning_rdStmTim4 (sz : Size) (lane : Lane) (s : State) :
    BusMeaning .read sz .stm (offsetOf 0x20 lane) s (exec (.rdStmTim4 sz lane) s) := by
  show BusMeaning _ _ _ _ _ (execRdStmTim4 sz lane s)
  unfold execRdStmTim4
  exact .read 0x20 lane _ _ rfl (offsetOf_val _ _ (by decide)) .captureCap

theorem busMeaning_wrStmTim4 (sz : Size) (lane : Lane) (data : Word) (s : State) :
    BusMeaning .write sz .stm (offsetOf 0x20 lane) s (exec (.wrStmTim4 sz lane data) s) := by
  show BusMeaning _ _ _ _ _ (execWrStmTim4 sz lane data s)
  unfold execWrStmTim4
  exact .write 0x20 lane _ _ _ rfl (offsetOf_val _ _ (by decide)) (.ignored _)

theorem busMeaning_rdStmTim5 (sz : Size) (lane : Lane) (s : State) :
    BusMeaning .read sz .stm (offsetOf 0x24 lane) s (exec (.rdStmTim5 sz lane) s) := by
  show BusMeaning _ _ _ _ _ (execRdStmTim5 sz lane s)
  unfold execRdStmTim5
  exact .read 0x24 lane _ _ rfl (offsetOf_val _ _ (by decide)) .captureCap

theorem busMeaning_wrStmTim5 (sz : Size) (lane : Lane) (data : Word) (s : State) :
    BusMeaning .write sz .stm (offsetOf 0x24 lane) s (exec (.wrStmTim5 sz lane data) s) := by
  show BusMeaning _ _ _ _ _ (execWrStmTim5 sz lane data s)
  unfold execWrStmTim5
  exact .write 0x24 lane _ _ _ rfl (offsetOf_val _ _ (by decide)) (.ignored _)

theorem busMeaning_rdStmTim6 (sz : Size) (lane : Lane) (s : State) :
    BusMeaning .read sz .stm (offsetOf 0x28 lane) s (exec (.rdStmTim6 sz lane) s) := by
  show BusMeaning _ _ _ _ _ (execRdStmTim6 sz lane s)
  unfold execRdStmTim6
  exact .read 0x28 lane _ _ rfl (offsetOf_val _ _ (by decide)) .reportTap

theorem busMeaning_wrStmTim6 (sz : Size) (lane : Lane) (data : Word) (s : State) :
    BusMeaning .write sz .stm (offsetOf 0x28 lane) s (exec (.wrStmTim6 sz lane data) s) := by
  show BusMeaning _ _ _ _ _ (execWrStmTim6 sz lane data s)
  unfold execWrStmTim6
  exact .write 0x28 lane _ _ _ rfl (offsetOf_val _ _ (by decide)) (.ignored _)

theorem busMeaning_rdStmCap (sz : Size) (lane : Lane) (s : State) :
    BusMeaning .read sz .stm (offsetOf 0x2C lane) s (exec (.rdStmCap sz lane) s) := by
  show BusMeaning _ _ _ _ _ (execRdStmCap sz lane s)
  unfold execRdStmCap
  exact .read 0x2C lane _ _ rfl (offsetOf_val _ _ (by decide)) (.quiet _)

theorem busMeaning_wrStmCap (sz : Size) (lane : Lane) (data : Word) (s : State) :
    BusMeaning .write sz .stm (offsetOf 0x2C lane) s (exec (.wrStmCap sz lane data) s) := by
  show BusMeaning _ _ _ _ _ (execWrStmCap sz lane data s)
  unfold execWrStmCap
  exact .write 0x2C lane _ _ _ rfl (offsetOf_val _ _ (by decide)) (.ignored _)

theorem busMeaning_rdStmCmp0 (sz : Size) (lane : Lane) (s : State) :
    BusMeaning .read sz .stm (offsetOf 0x30 lane) s (exec (.rdStmCmp0 sz lane) s) := by
  show BusMeaning _ _ _ _ _ (execRdStmCmp0 sz lane s)
  unfold execRdStmCmp0
  exact .read 0x30 lane _ _ rfl (offsetOf_val _ _ (by decide)) (.quiet _)

theorem busMeaning_wrStmCmp0 (sz : Size) (lane : Lane) (data : Word) (s : State) :
    BusMeaning .write sz .stm (offsetOf 0x30 lane) s (exec (.wrStmCmp0 sz lane data) s) := by
  show BusMeaning _ _ _ _ _ (execWrStmCmp0 sz lane data s)
  unfold execWrStmCmp0
  exact .write 0x30 lane _ _ _ rfl (offsetOf_val _ _ (by decide)) (.compare _)

theorem busMeaning_rdStmCmp1 (sz : Size) (lane : Lane) (s : State) :
    BusMeaning .read sz .stm (offsetOf 0x34 lane) s (exec (.rdStmCmp1 sz lane) s) := by
  show BusMeaning _ _ _ _ _ (execRdStmCmp1 sz lane s)
  unfold execRdStmCmp1
  exact .read 0x34 lane _ _ rfl (offsetOf_val _ _ (by decide)) (.quiet _)

theorem busMeaning_wrStmCmp1 (sz : Size) (lane : Lane) (data : Word) (s : State) :
    BusMeaning .write sz .stm (offsetOf 0x34 lane) s (exec (.wrStmCmp1 sz lane data) s) := by
  show BusMeaning _ _ _ _ _ (execWrStmCmp1 sz lane data s)
  unfold execWrStmCmp1
  exact .write 0x34 lane _ _ _ rfl (offsetOf_val _ _ (by decide)) (.compare _)

theorem busMeaning_rdStmCmcon (sz : Size) (lane : Lane) (s : State) :
    BusMeaning .read sz .stm (offsetOf 0x38 lane) s (exec (.rdStmCmcon sz lane) s) := by
  show BusMeaning _ _ _ _ _ (execRdStmCmcon sz lane s)
  unfold execRdStmCmcon
  exact .read 0x38 lane _ _ rfl (offsetOf_val _ _ (by decide)) (.quiet _)

theorem busMeaning_wrStmCmcon (sz : Size) (lane : Lane) (data : Word) (s : State) :
    BusMeaning .write sz .stm (offsetOf 0x38 lane) s (exec (.wrStmCmcon sz lane data) s) := by
  show BusMeaning _ _ _ _ _ (execWrStmCmcon sz lane data s)
  unfold execWrStmCmcon
  exact .write 0x38 lane _ _ _ rfl (offsetOf_val _ _ (by decide)) (.timerWord (fun v t => { t with cmcon := v }) (fun _ _ => ⟨rfl, rfl, rfl, rfl, rfl, rfl⟩))

theorem busMeaning_rdStmIcr (sz : Size) (lane : Lane) (s : State) :
    BusMeaning .read sz .stm (offsetOf 0x3C lane) s (exec (.rdStmIcr sz lane) s) := by
  show BusMeaning _ _ _ _ _ (execRdStmIcr sz lane s)
  unfold execRdStmIcr
  exact .read 0x3C lane _ _ rfl (offsetOf_val _ _ (by decide)) (.quiet _)

theorem busMeaning_wrStmIcr (sz : Size) (lane : Lane) (data : Word) (s : State) :
    BusMeaning .write sz .stm (offsetOf 0x3C lane) s (exec (.wrStmIcr sz lane data) s) := by
  show BusMeaning _ _ _ _ _ (execWrStmIcr sz lane data s)
  unfold execWrStmIcr
  exact .write 0x3C lane _ _ _ rfl (offsetOf_val _ _ (by decide)) .icr

theorem busMeaning_rdStmIscr (sz : Size) (lane : Lane) (s : State) :
    BusMeaning .read sz .stm (offsetOf 0x40 lane) s (exec (.rdStmIscr sz lane) s) := by
  show BusMeaning _ _ _ _ _ (execRdStmIscr sz lane s)
  unfold execRdStmIscr
  exact .read 0x40 lane _ _ rfl (offsetOf_val _ _ (by decide)) (.quiet _)

theorem busMeaning_wrStmIscr (sz : Size) (lane : Lane) (data : Word) (s : State) :
    BusMeaning .write sz .stm (offsetOf 0x40 lane) s (exec (.wrStmIscr sz lane data) s) := by
  show BusMeaning _ _ _ _ _ (execWrStmIscr sz lane data s)
  unfold execWrStmIscr
  exact .write 0x40 lane _ _ _ rfl (offsetOf_val _ _ (by decide)) .iscr

theorem busMeaning_rdStmTim0sv (sz : Size) (lane : Lane) (s : State) :
    BusMeaning .read sz .stm (offsetOf 0x50 lane) s (exec (.rdStmTim0sv sz lane) s) := by
  show BusMeaning _ _ _ _ _ (execRdStmTim0sv sz lane s)
  unfold execRdStmTim0sv
  exact .read 0x50 lane _ _ rfl (offsetOf_val _ _ (by decide)) .captureCapsv

theorem busMeaning_wrStmTim0sv (sz : Size) (lane : Lane) (data : Word) (s : State) :
    BusMeaning .write sz .stm (offsetOf 0x50 lane) s (exec (.wrStmTim0sv sz lane data) s) := by
  show BusMeaning _ _ _ _ _ (execWrStmTim0sv sz lane data s)
  unfold execWrStmTim0sv
  exact .write 0x50 lane _ _ _ rfl (offsetOf_val _ _ (by decide)) (.ignored _)

theorem busMeaning_rdStmCapsv (sz : Size) (lane : Lane) (s : State) :
    BusMeaning .read sz .stm (offsetOf 0x54 lane) s (exec (.rdStmCapsv sz lane) s) := by
  show BusMeaning _ _ _ _ _ (execRdStmCapsv sz lane s)
  unfold execRdStmCapsv
  exact .read 0x54 lane _ _ rfl (offsetOf_val _ _ (by decide)) (.quiet _)

theorem busMeaning_wrStmCapsv (sz : Size) (lane : Lane) (data : Word) (s : State) :
    BusMeaning .write sz .stm (offsetOf 0x54 lane) s (exec (.wrStmCapsv sz lane data) s) := by
  show BusMeaning _ _ _ _ _ (execWrStmCapsv sz lane data s)
  unfold execWrStmCapsv
  exact .write 0x54 lane _ _ _ rfl (offsetOf_val _ _ (by decide)) (.ignored _)

theorem busMeaning_rdStmOcs (sz : Size) (lane : Lane) (s : State) :
    BusMeaning .read sz .stm (offsetOf 0xE8 lane) s (exec (.rdStmOcs sz lane) s) := by
  show BusMeaning _ _ _ _ _ (execRdStmOcs sz lane s)
  unfold execRdStmOcs
  exact .read 0xE8 lane _ _ rfl (offsetOf_val _ _ (by decide)) (.quiet _)

theorem busMeaning_wrStmOcs (sz : Size) (lane : Lane) (data : Word) (s : State) :
    BusMeaning .write sz .stm (offsetOf 0xE8 lane) s (exec (.wrStmOcs sz lane data) s) := by
  show BusMeaning _ _ _ _ _ (execWrStmOcs sz lane data s)
  unfold execWrStmOcs
  exact .write 0xE8 lane _ _ _ rfl (offsetOf_val _ _ (by decide)) (.timerWord (fun v t => { t with ocs := v }) (fun _ _ => ⟨rfl, rfl, rfl, rfl, rfl, rfl⟩))

theorem busMeaning_rdStmKrstclr (sz : Size) (lane : Lane) (s : State) :
    BusMeaning .read sz .stm (offsetOf 0xEC lane) s (exec (.rdStmKrstclr sz lane) s) := by
  show BusMeaning _ _ _ _ _ (execRdStmKrstclr sz lane s)
  unfold execRdStmKrstclr
  exact .read 0xEC lane _ _ rfl (offsetOf_val _ _ (by decide)) (.quiet _)

theorem busMeaning_wrStmKrstclr (sz : Size) (lane : Lane) (data : Word) (s : State) :
    BusMeaning .write sz .stm (offsetOf 0xEC lane) s (exec (.wrStmKrstclr sz lane data) s) := by
  show BusMeaning _ _ _ _ _ (execWrStmKrstclr sz lane data s)
  unfold execWrStmKrstclr
  exact .write 0xEC lane _ _ _ rfl (offsetOf_val _ _ (by decide)) (.timerWord (fun v t => { t with krstclr := v }) (fun _ _ => ⟨rfl, rfl, rfl, rfl, rfl, rfl⟩))

theorem busMeaning_rdStmKrst1 (sz : Size) (lane : Lane) (s : State) :
    BusMeaning .read sz .stm (offsetOf 0xF0 lane) s (exec (.rdStmKrst1 sz lane) s) := by
  show BusMeaning _ _ _ _ _ (execRdStmKrst1 sz lane s)
  unfold execRdStmKrst1
  exact .read 0xF0 lane _ _ rfl (offsetOf_val _ _ (by decide)) (.quiet _)

theorem busMeaning_wrStmKrst1 (sz : Size) (lane : Lane) (data : Word) (s : State) :
    BusMeaning .write sz .stm (offsetOf 0xF0 lane) s (exec (.wrStmKrst1 sz lane data) s) := by
  show BusMeaning _ _ _ _ _ (execWrStmKrst1 sz lane data s)
  unfold execWrStmKrst1
  exact .write 0xF0 lane _ _ _ rfl (offsetOf_val _ _ (by decide)) (.timerWord (fun v t => { t with krst1 := v }) (fun _ _ => ⟨rfl, rfl, rfl, rfl, rfl, rfl⟩))

theorem busMeaning_rdStmKrst0 (sz : Size) (lane : Lane) (s : State) :
    BusMeaning .read sz .stm (offsetOf 0xF4 lane) s (exec (.rdStmKrst0 sz lane) s) := by
  show BusMeaning _ _ _ _ _ (execRdStmKrst0 sz lane s)
  unfold execRdStmKrst0
  exact .read 0xF4 lane _ _ rfl (offsetOf_val _ _ (by decide)) (.quiet _)

theorem busMeaning_wrStmKrst0 (sz : Size) (lane : Lane) (data : Word) (s : State) :
    BusMeaning .write sz .stm (offsetOf 0xF4 lane) s (exec (.wrStmKrst0 sz lane data) s) := by
  show BusMeaning _ _ _ _ _ (execWrStmKrst0 sz lane data s)
  unfold execWrStmKrst0
  exact .write 0xF4 lane _ _ _ rfl (offsetOf_val _ _ (by decide)) (.timerWord (fun v t => { t with krst0 := v }) (fun _ _ => ⟨rfl, rfl, rfl, rfl, rfl, rfl⟩))

theorem busMeaning_rdStmAccen1 (sz : Size) (lane : Lane) (s : State) :
    BusMeaning .read sz .stm (offsetOf 0xF8 lane) s (exec (.rdStmAccen1 sz lane) s) := by
  show BusMeaning _ _ _ _ _ (execRdStmAccen1 sz lane s)
  unfold execRdStmAccen1
  exact .read 0xF8 lane _ _ rfl (offsetOf_val _ _ (by decide)) (.quiet _)

theorem busMeaning_wrStmAccen1 (sz : Size) (lane : Lane) (data : Word) (s : State) :
    BusMeaning .write sz .stm (offsetOf 0xF8 lane) s (exec (.wrStmAccen1 sz lane data) s) := by
  show BusMeaning _ _ _ _ _ (execWrStmAccen1 sz lane data s)
  unfold execWrStmAccen1
  exact .write 0xF8 lane _ _ _ rfl (offsetOf_val _ _ (by decide)) (.timerWord (fun v t => { t with accen1 := v }) (fun _ _ => ⟨rfl, rfl, rfl, rfl, rfl, rfl⟩))

theorem busMeaning_rdStmAccen0 (sz : Size) (lane : Lane) (s : State) :
    BusMeaning .read sz .stm (offsetOf 0xFC lane) s (exec (.rdStmAccen0 sz lane) s) := by
  show BusMeaning _ _ _ _ _ (execRdStmAccen0 sz lane s)
  unfold execRdStmAccen0
  exact .read 0xFC lane _ _ rfl (offsetOf_val _ _ (by decide)) (.quiet _)

theorem busMeaning_wrStmAccen0 (sz : Size) (lane : Lane) (data : Word) (s : State) :
    BusMeaning .write sz .stm (offsetOf 0xFC lane) s (exec (.wrStmAccen0 sz lane data) s) := by
  show BusMeaning _ _ _ _ _ (execWrStmAccen0 sz lane data s)
  unfold execWrStmAccen0
  exact .write 0xFC lane _ _ _ rfl (offsetOf_val _ _ (by decide)) (.timerWord (fun v t => { t with accen0 := v }) (fun _ _ => ⟨rfl, rfl, rfl, rfl, rfl, rfl⟩))

theorem busMeaning_rdUartClc (sz : Size) (lane : Lane) (s : State) :
    BusMeaning .read sz .uart (offsetOf 0x00 lane) s (exec (.rdUartClc sz lane) s) := by
  show BusMeaning _ _ _ _ _ (execRdUartClc sz lane s)
  unfold execRdUartClc
  exact .read 0x00 lane _ _ rfl (offsetOf_val _ _ (by decide)) (.quiet _)

theorem busMeaning_wrUartClc (sz : Size) (lane : Lane) (data : Word) (s : State) :
    BusMeaning .write sz .uart (offsetOf 0x00 lane) s (exec (.wrUartClc sz lane data) s) := by
  show BusMeaning _ _ _ _ _ (execWrUartClc sz lane data s)
  unfold execWrUartClc
  exact .write 0x00 lane _ _ _ rfl (offsetOf_val _ _ (by decide)) (.uartWord (fun v u => { u with clc := v }) (fun _ _ => ⟨rfl, rfl, rfl, rfl, rfl, rfl, rfl, rfl, rfl, rfl⟩))

theorem busMeaning_rdUartIocr (sz : Size) (lane : Lane) (s : State) :
    BusMeaning .read sz .uart (offsetOf 0x04 lane) s (exec (.rdUartIocr sz lane) s) := by
  show BusMeaning _ _ _ _ _ (execRdUartIocr sz lane s)
  unfold execRdUartIocr
  exact .read 0x04 lane _ _ rfl (offsetOf_val _ _ (by decide)) (.quiet _)

theorem busMeaning_wrUartIocr (sz : Size) (lane : Lane) (data : Word) (s : State) :
    BusMeaning .write sz .uart (offsetOf 0x04 lane) s (exec (.wrUartIocr sz lane data) s) := by
  show BusMeaning _ _ _ _ _ (execWrUartIocr sz lane data s)
  unfold execWrUartIocr
  exact .write 0x04 lane _ _ _ rfl (offsetOf_val _ _ (by decide)) (.uartWord (fun v u => { u with iocr := v }) (fun _ _ => ⟨rfl, rfl, rfl, rfl, rfl, rfl, rfl, rfl, rfl, rfl⟩))

theorem busMeaning_rdUartId (sz : Size) (lane : Lane) (s : State) :
    BusMeaning .read sz .uart (offsetOf 0x08 lane) s (exec (.rdUartId sz lane) s) := by
  show BusMeaning _ _ _ _ _ (execRdUartId sz lane s)
  unfold execRdUartId
  exact .read 0x08 lane _ _ rfl (offsetOf_val _ _ (by decide)) (.quiet _)

theorem busMeaning_wrUartId (sz : Size) (lane : Lane) (data : Word) (s : State) :
    BusMeaning .write sz .uart (offsetOf 0x08 lane) s (exec (.wrUartId sz lane data) s) := by
  show BusMeaning _ _ _ _ _ (execWrUartId sz lane data s)
  unfold execWrUartId
  exact .write 0x08 lane _ _ _ rfl (offsetOf_val _ _ (by decide)) (.ignored _)

theorem busMeaning_rdUartTxfifocon (sz : Size) (lane : Lane) (s : State) :
    BusMeaning .read sz .uart (offsetOf 0x0C lane) s (exec (.rdUartTxfifocon sz lane) s) := by
  show BusMeaning _ _ _ _ _ (execRdUartTxfifocon sz lane s)
  unfold execRdUartTxfifocon
  exact .read 0x0C lane _ _ rfl (offsetOf_val _ _ (by decide)) (.quiet _)

theorem busMeaning_wrUartTxfifocon (sz : Size) (lane : Lane) (data : Word) (s : State) :
    BusMeaning .write sz .uart (offsetOf 0x0C lane) s (exec (.wrUartTxfifocon sz lane data) s) := by
  show BusMeaning _ _ _ _ _ (execWrUartTxfifocon sz lane data s)
  unfold execWrUartTxfifocon
  exact .write 0x0C lane _ _ _ rfl (offsetOf_val _ _ (by decide)) .txfifocon

theorem busMeaning_rdUartRxfifocon (sz : Size) (lane : Lane) (s : State) :
    BusMeaning .read sz .uart (offsetOf 0x10 lane) s (exec (.rdUartRxfifocon sz lane) s) := by
  show BusMeaning _ _ _ _ _ (execRdUartRxfifocon sz lane s)
  unfold execRdUartRxfifocon
  exact .read 0x10 lane _ _ rfl (offsetOf_val _ _ (by decide)) (.quiet _)

theorem busMeaning_wrUartRxfifocon (sz : Size) (lane : Lane) (data : Word) (s : State) :
    BusMeaning .write sz .uart (offsetOf 0x10 lane) s (exec (.wrUartRxfifocon sz lane data) s) := by
  show BusMeaning _ _ _ _ _ (execWrUartRxfifocon sz lane data s)
  unfold execWrUartRxfifocon
  exact .write 0x10 lane _ _ _ rfl (offsetOf_val _ _ (by decide)) .rxfifocon

theorem busMeaning_rdUartBitcon (sz : Size) (lane : Lane) (s : State) :
    BusMeaning .read sz .uart (offsetOf 0x14 lane) s (exec (.rdUartBitcon sz lane) s) := by
  show BusMeaning _ _ _ _ _ (execRdUartBitcon sz lane s)
  unfold execRdUartBitcon
  exact .read 0x14 lane _ _ rfl (offsetOf_val _ _ (by decide)) (.quiet _)

theorem busMeaning_wrUartBitcon (sz : Size) (lane : Lane) (data : Word) (s : State) :
    BusMeaning .write sz .uart (offsetOf 0x14 lane) s (exec (.wrUartBitcon sz lane data) s) := by
  show BusMeaning _ _ _ _ _ (execWrUartBitcon sz lane data s)
  unfold execWrUartBitcon
  exact .write 0x14 lane _ _ _ rfl (offsetOf_val _ _ (by decide)) (.uartWord (fun v u => { u with bitcon := v }) (fun _ _ => ⟨rfl, rfl, rfl, rfl, rfl, rfl, rfl, rfl, rfl, rfl⟩))

theorem busMeaning_rdUartFramecon (sz : Size) (lane : Lane) (s : State) :
    BusMeaning .read sz .uart (offsetOf 0x18 lane) s (exec (.rdUartFramecon sz lane) s) := by
  show BusMeaning _ _ _ _ _ (execRdUartFramecon sz lane s)
  unfold execRdUartFramecon
  exact .read 0x18 lane _ _ rfl (offsetOf_val _ _ (by decide)) (.quiet _)

theorem busMeaning_wrUartFramecon (sz : Size) (lane : Lane) (data : Word) (s : State) :
    BusMeaning .write sz .uart (offsetOf 0x18 lane) s (exec (.wrUartFramecon sz lane data) s) := by
  show BusMeaning _ _ _ _ _ (execWrUartFramecon sz lane data s)
  unfold execWrUartFramecon
  exact .write 0x18 lane _ _ _ rfl (offsetOf_val _ _ (by decide)) (.uartWord (fun v u => { u with framecon := v }) (fun _ _ => ⟨rfl, rfl, rfl, rfl, rfl, rfl, rfl, rfl, rfl, rfl⟩))

theorem busMeaning_rdUartDatcon (sz : Size) (lane : Lane) (s : State) :
    BusMeaning .read sz .uart (offsetOf 0x1C lane) s (exec (.rdUartDatcon sz lane) s) := by
  show BusMeaning _ _ _ _ _ (execRdUartDatcon sz lane s)
  unfold execRdUartDatcon
  exact .read 0x1C lane _ _ rfl (offsetOf_val _ _ (by decide)) (.quiet _)

theorem busMeaning_wrUartDatcon (sz : Size) (lane : Lane) (data : Word) (s : State) :
    BusMeaning .write sz .uart (offsetOf 0x1C lane) s (exec (.wrUartDatcon sz lane data) s) := by
  show BusMeaning _ _ _ _ _ (execWrUartDatcon sz lane data s)
  unfold execWrUartDatcon
  exact .write 0x1C lane _ _ _ rfl (offsetOf_val _ _ (by decide)) (.uartWord (fun v u => { u with datcon := v }) (fun _ _ => ⟨rfl, rfl, rfl, rfl, rfl, rfl, rfl, rfl, rfl, rfl⟩))

theorem busMeaning_rdUartBrg (sz : Size) (lane : Lane) (s : State) :
    BusMeaning .read sz .uart (offsetOf 0x20 lane) s (exec (.rdUartBrg sz lane) s) := by
  show BusMeaning _ _ _ _ _ (execRdUartBrg sz lane s)
  unfold execRdUartBrg
  exact .read 0x20 lane _ _ rfl (offsetOf_val _ _ (by decide)) (.quiet _)

theorem busMeaning_wrUartBrg (sz : Size) (lane : Lane) (data : Word) (s : State) :
    BusMeaning .write sz .uart (offsetOf 0x20 lane) s (exec (.wrUartBrg sz lane data) s) := by
  show BusMeaning _ _ _ _ _ (execWrUartBrg sz lane data s)
  unfold execWrUartBrg
  exact .write 0x20 lane _ _ _ rfl (offsetOf_val _ _ (by decide)) (.uartWord (fun v u => { u with brg := v }) (fun _ _ => ⟨rfl, rfl, rfl, rfl, rfl, rfl, rfl, rfl, rfl, rfl⟩))

theorem busMeaning_rdUartBrd (sz : Size) (lane : Lane) (s : State) :
    BusMeaning .read sz .uart (offsetOf 0x24 lane) s (exec (.rdUartBrd sz lane) s) := by
  show BusMeaning _ _ _ _ _ (execRdUartBrd sz lane s)
  unfold execRdUartBrd
  exact .read 0x24 lane _ _ rfl (offsetOf_val _ _ (by decide)) (.quiet _)

theorem busMeaning_wrUartBrd (sz : Size) (lane : Lane) (data : Word) (s : State) :
    BusMeaning .write sz .uart (offsetOf 0x24 lane) s (exec (.wrUartBrd sz lane data) s) := by
  show BusMeaning _ _ _ _ _ (execWrUartBrd sz lane data s)
  unfold execWrUartBrd
  exact .write 0x24 lane _ _ _ rfl (offsetOf_val _ _ (by decide)) (.uartWord (fun v u => { u with brd := v }) (fun _ _ => ⟨rfl, rfl, rfl, rfl, rfl, rfl, rfl, rfl, rfl, rfl⟩))

theorem busMeaning_rdUartLincon (sz : Size) (lane : Lane) (s : State) :
    BusMeaning .read sz .uart (offsetOf 0x28 lane) s (exec (.rdUartLincon sz lane) s) := by
  show BusMeaning _ _ _ _ _ (execRdUartLincon sz lane s)
  unfold execRdUartLincon
  exact .read 0x28 lane _ _ rfl (offsetOf_val _ _ (by decide)) (.quiet _)

theorem busMeaning_wrUartLincon (sz : Size) (lane : Lane) (data : Word) (s : State) :
    BusMeaning .write sz .uart (offsetOf 0x28 lane) s (exec (.wrUartLincon sz lane data) s) := by
  show BusMeaning _ _ _ _ _ (execWrUartLincon sz lane data s)
  unfold execWrUartLincon
  exact .write 0x28 lane _ _ _ rfl (offsetOf_val _ _ (by decide)) (.uartWord (fun v u => { u with lincon := v }) (fun _ _ => ⟨rfl, rfl, rfl, rfl, rfl, rfl, rfl, rfl, rfl, rfl⟩))

theorem busMeaning_rdUartLinbtimer (sz : Size) (lane : Lane) (s : State) :
    BusMeaning .read sz .uart (offsetOf 0x2C lane) s (exec (.rdUartLinbtimer sz lane) s) := by
  show BusMeaning _ _ _ _ _ (execRdUartLinbtimer sz lane s)
  unfold execRdUartLinbtimer
  exact .read 0x2C lane _ _ rfl (offsetOf_val _ _ (by decide)) (.quiet _)

theorem busMeaning_wrUartLinbtimer (sz : Size) (lane : Lane) (data : Word) (s : State) :
    BusMeaning .write sz .uart (offsetOf 0x2C lane) s (exec (.wrUartLinbtimer sz lane data) s) := by
  show BusMeaning _ _ _ _ _ (execWrUartLinbtimer sz lane data s)
  unfold execWrUartLinbtimer
  exact .write 0x2C lane _ _ _ rfl (offsetOf_val _ _ (by decide)) (.uartWord (fun v u => { u with linbtimer := v }) (fun _ _ => ⟨rfl, rfl, rfl, rfl, rfl, rfl, rfl, rfl, rfl, rfl⟩))

theorem busMeaning_rdUartLinhtimer (sz : Size) (lane : Lane) (s : State) :
    BusMeaning .read sz .uart (offsetOf 0x30 lane) s (exec (.rdUartLinhtimer sz lane) s) := by
  show BusMeaning _ _ _ _ _ (execRdUartLinhtimer sz lane s)
  unfold execRdUartLinhtimer
  exact .read 0x30 lane _ _ rfl (offsetOf_val _ _ (by decide)) (.quiet _)

theorem busMeaning_wrUartLinhtimer (sz : Size) (lane : Lane) (data : Word) (s : State) :
    BusMeaning .write sz .uart (offsetOf 0x30 lane) s (exec (.wrUartLinhtimer sz lane data) s) := by
  show BusMeaning _ _ _ _ _ (execWrUartLinhtimer sz lane data s)
  unfold execWrUartLinhtimer
  exact .write 0x30 lane _ _ _ rfl (offsetOf_val _ _ (by decide)) (.uartWord (fun v u => { u with linhtimer := v }) (fun _ _ => ⟨rfl, rfl, rfl, rfl, rfl, rfl, rfl, rfl, rfl, rfl⟩))

theorem busMeaning_rdUartFlags (sz : Size) (lane : Lane) (s : State) :
    BusMeaning .read sz .uart (offsetOf 0x34 lane) s (exec (.rdUartFlags sz lane) s) := by
  show BusMeaning _ _ _ _ _ (execRdUartFlags sz lane s)
  unfold execRdUartFlags
  exact .read 0x34 lane _ _ rfl (offsetOf_val _ _ (by decide)) (.quiet _)

theorem busMeaning_wrUartFlags (sz : Size) (lane : Lane) (data : Word) (s : State) :
    BusMeaning .write sz .uart (offsetOf 0x34 lane) s (exec (.wrUartFlags sz lane data) s) := by
  show BusMeaning _ _ _ _ _ (execWrUartFlags sz lane data s)
  unfold execWrUartFlags
  exact .write 0x34 lane _ _ _ rfl (offsetOf_val _ _ (by decide)) (.ignored _)

theorem busMeaning_rdUartFlagsset (sz : Size) (lane : Lane) (s : State) :
    BusMeaning .read sz .uart (offsetOf 0x38 lane) s (exec (.rdUartFlagsset sz lane) s) := by
  show BusMeaning _ _ _ _ _ (execRdUartFlagsset sz lane s)
  unfold execRdUartFlagsset
  exact .read 0x38 lane _ _ rfl (offsetOf_val _ _ (by decide)) (.quiet _)

theorem busMeaning_wrUartFlagsset (sz : Size) (lane : Lane) (data : Word) (s : State) :
    BusMeaning .write sz .uart (offsetOf 0x38 lane) s (exec (.wrUartFlagsset sz lane data) s) := by
  show BusMeaning _ _ _ _ _ (execWrUartFlagsset sz lane data s)
  unfold execWrUartFlagsset
  exact .write 0x38 lane _ _ _ rfl (offsetOf_val _ _ (by decide)) .flagsset

theorem busMeaning_rdUartFlagsclear (sz : Size) (lane : Lane) (s : State) :
    BusMeaning .read sz .uart (offsetOf 0x3C lane) s (exec (.rdUartFlagsclear sz lane) s) := by
  show BusMeaning _ _ _ _ _ (execRdUartFlagsclear sz lane s)
  unfold execRdUartFlagsclear
  exact .read 0x3C lane _ _ rfl (offsetOf_val _ _ (by decide)) (.quiet _)

theorem busMeaning_wrUartFlagsclear (sz : Size) (lane : Lane) (data : Word) (s : State) :
    BusMeaning .write sz .uart (offsetOf 0x3C lane) s (exec (.wrUartFlagsclear sz lane data) s) := by
  show BusMeaning _ _ _ _ _ (execWrUartFlagsclear sz lane data s)
  unfold execWrUartFlagsclear
  exact .write 0x3C lane _ _ _ rfl (offsetOf_val _ _ (by decide)) .flagsclear

theorem busMeaning_rdUartFlagsenable (sz : Size) (lane : Lane) (s : State) :
    BusMeaning .read sz .uart (offsetOf 0x40 lane) s (exec (.rdUartFlagsenable sz lane) s) := by
  show BusMeaning _ _ _ _ _ (execRdUartFlagsenable sz lane s)
  unfold execRdUartFlagsenable
  exact .read 0x40 lane _ _ rfl (offsetOf_val _ _ (by decide)) (.quiet _)

theorem busMeaning_wrUartFlagsenable (sz : Size) (lane : Lane) (data : Word) (s : State) :
    BusMeaning .write sz .uart (offsetOf 0x40 lane) s (exec (.wrUartFlagsenable sz lane data) s) := by
  show BusMeaning _ _ _ _ _ (execWrUartFlagsenable sz lane data s)
  unfold execWrUartFlagsenable
  exact .write 0x40 lane _ _ _ rfl (offsetOf_val _ _ (by decide)) (.uartWord (fun v u => { u with flagsenable := v }) (fun _ _ => ⟨rfl, rfl, rfl, rfl, rfl, rfl, rfl, rfl, rfl, rfl⟩))

theorem busMeaning_rdUartTxdata (sz : Size) (lane : Lane) (s : State) :
    BusMeaning .read sz .uart (offsetOf 0x44 lane) s (exec (.rdUartTxdata sz lane) s) := by
  show BusMeaning _ _ _ _ _ (execRdUartTxdata sz lane s)
  unfold execRdUartTxdata
  exact .read 0x44 lane _ _ rfl (offsetOf_val _ _ (by decide)) (.quiet _)

theorem busMeaning_wrUartTxdata (sz : Size) (lane : Lane) (data : Word) (ans : Answer) (s : State) :
    BusMeaning .write sz .uart (offsetOf 0x44 lane) s (exec (.wrUartTxdata sz lane data ans) s) := by
  show BusMeaning _ _ _ _ _ (execWrUartTxdata sz lane data ans s)
  unfold execWrUartTxdata
  exact .write 0x44 lane _ _ _ rfl (offsetOf_val _ _ (by decide)) (.txdata _)

theorem busMeaning_rdUartRxdata (sz : Size) (lane : Lane) (s : State) :
    BusMeaning .read sz .uart (offsetOf 0x48 lane) s (exec (.rdUartRxdata sz lane) s) := by
  show BusMeaning _ _ _ _ _ (execRdUartRxdata sz lane s)
  unfold execRdUartRxdata
  exact .read 0x48 lane _ _ rfl (offsetOf_val _ _ (by decide)) .advanceRx

theorem busMeaning_wrUartRxdata (sz : Size) (lane : Lane) (data : Word) (s : State) :
    BusMeaning .write sz .uart (offsetOf 0x48 lane) s (exec (.wrUartRxdata sz lane data) s) := by
  show BusMeaning _ _ _ _ _ (execWrUartRxdata sz lane data s)
  unfold execWrUartRxdata
  exact .write 0x48 lane _ _ _ rfl (offsetOf_val _ _ (by decide)) (.ignored _)

theorem busMeaning_rdUartCsr (sz : Size) (lane : Lane) (s : State) :
    BusMeaning .read sz .uart (offsetOf 0x4C lane) s (exec (.rdUartCsr sz lane) s) := by
  show BusMeaning _ _ _ _ _ (execRdUartCsr sz lane s)
  unfold execRdUartCsr
  exact .read 0x4C lane _ _ rfl (offsetOf_val _ _ (by decide)) (.quiet _)

theorem busMeaning_wrUartCsr (sz : Size) (lane : Lane) (data : Word) (s : State) :
    BusMeaning .write sz .uart (offsetOf 0x4C lane) s (exec (.wrUartCsr sz lane data) s) := by
  show BusMeaning _ _ _ _ _ (execWrUartCsr sz lane data s)
  unfold execWrUartCsr
  exact .write 0x4C lane _ _ _ rfl (offsetOf_val _ _ (by decide)) (.uartWord (fun v u => { u with csr := v }) (fun _ _ => ⟨rfl, rfl, rfl, rfl, rfl, rfl, rfl, rfl, rfl, rfl⟩))

theorem busMeaning_rdUartRxdatad (sz : Size) (lane : Lane) (s : State) :
    BusMeaning .read sz .uart (offsetOf 0x50 lane) s (exec (.rdUartRxdatad sz lane) s) := by
  show BusMeaning _ _ _ _ _ (execRdUartRxdatad sz lane s)
  unfold execRdUartRxdatad
  exact .read 0x50 lane _ _ rfl (offsetOf_val _ _ (by decide)) (.quiet _)

theorem busMeaning_wrUartRxdatad (sz : Size) (lane : Lane) (data : Word) (s : State) :
    BusMeaning .write sz .uart (offsetOf 0x50 lane) s (exec (.wrUartRxdatad sz lane data) s) := by
  show BusMeaning _ _ _ _ _ (execWrUartRxdatad sz lane data s)
  unfold execWrUartRxdatad
  exact .write 0x50 lane _ _ _ rfl (offsetOf_val _ _ (by decide)) (.ignored _)

theorem busMeaning_rdUartOcs (sz : Size) (lane : Lane) (s : State) :
    BusMeaning .read sz .uart (offsetOf 0xE8 lane) s (exec (.rdUartOcs sz lane) s) := by
  show BusMeaning _ _ _ _ _ (execRdUartOcs sz lane s)
  unfold execRdUartOcs
  exact .read 0xE8 lane _ _ rfl (offsetOf_val _ _ (by decide)) (.quiet _)

theorem busMeaning_wrUartOcs (sz : Size) (lane : Lane) (data : Word) (s : State) :
    BusMeaning .write sz .uart (offsetOf 0xE8 lane) s (exec (.wrUartOcs sz lane data) s) := by
  show BusMeaning _ _ _ _ _ (execWrUartOcs sz lane data s)
  unfold execWrUartOcs
  exact .write 0xE8 lane _ _ _ rfl (offsetOf_val _ _ (by decide)) (.uartWord (fun v u => { u with ocs := v }) (fun _ _ => ⟨rfl, rfl, rfl, rfl, rfl, rfl, rfl, rfl, rfl, rfl⟩))

theorem busMeaning_rdUartKrstclr (sz : Size) (lane : Lane) (s : State) :
    BusMeaning .read sz .uart (offsetOf 0xEC lane) s (exec (.rdUartKrstclr sz lane) s) := by
  show BusMeaning _ _ _ _ _ (execRdUartKrstclr sz lane s)
  unfold execRdUartKrstclr
  exact .read 0xEC lane _ _ rfl (offsetOf_val _ _ (by decide)) (.quiet _)

theorem busMeaning_wrUartKrstclr (sz : Size) (lane : Lane) (data : Word) (s : State) :
    BusMeaning .write sz .uart (offsetOf 0xEC lane) s (exec (.wrUartKrstclr sz lane data) s) := by
  show BusMeaning _ _ _ _ _ (execWrUartKrstclr sz lane data s)
  unfold execWrUartKrstclr
  exact .write 0xEC lane _ _ _ rfl (offsetOf_val _ _ (by decide)) (.uartWord (fun v u => { u with krstclr := v }) (fun _ _ => ⟨rfl, rfl, rfl, rfl, rfl, rfl, rfl, rfl, rfl, rfl⟩))

theorem busMeaning_rdUartKrst1 (sz : Size) (lane : Lane) (s : State) :
    BusMeaning .read sz .uart (offsetOf 0xF0 lane) s (exec (.rdUartKrst1 sz lane) s) := by
  show BusMeaning _ _ _ _ _ (execRdUartKrst1 sz lane s)
  unfold execRdUartKrst1
  exact .read 0xF0 lane _ _ rfl (offsetOf_val _ _ (by decide)) (.quiet _)

theorem busMeaning_wrUartKrst1 (sz : Size) (lane : Lane) (data : Word) (s : State) :
    BusMeaning .write sz .uart (offsetOf 0xF0 lane) s (exec (.wrUartKrst1 sz lane data) s) := by
  show BusMeaning _ _ _ _ _ (execWrUartKrst1 sz lane data s)
  unfold execWrUartKrst1
  exact .write 0xF0 lane _ _ _ rfl (offsetOf_val _ _ (by decide)) (.uartWord (fun v u => { u with krst1 := v }) (fun _ _ => ⟨rfl, rfl, rfl, rfl, rfl, rfl, rfl, rfl, rfl, rfl⟩))

theorem busMeaning_rdUartKrst0 (sz : Size) (lane : Lane) (s : State) :
    BusMeaning .read sz .uart (offsetOf 0xF4 lane) s (exec (.rdUartKrst0 sz lane) s) := by
  show BusMeaning _ _ _ _ _ (execRdUartKrst0 sz lane s)
  unfold execRdUartKrst0
  exact .read 0xF4 lane _ _ rfl (offsetOf_val _ _ (by decide)) (.quiet _)

theorem busMeaning_wrUartKrst0 (sz : Size) (lane : Lane) (data : Word) (s : State) :
    BusMeaning .write sz .uart (offsetOf 0xF4 lane) s (exec (.wrUartKrst0 sz lane data) s) := by
  show BusMeaning _ _ _ _ _ (execWrUartKrst0 sz lane data s)
  unfold execWrUartKrst0
  exact .write 0xF4 lane _ _ _ rfl (offsetOf_val _ _ (by decide)) (.uartWord (fun v u => { u with krst0 := v }) (fun _ _ => ⟨rfl, rfl, rfl, rfl, rfl, rfl, rfl, rfl, rfl, rfl⟩))

theorem busMeaning_rdUartAccen1 (sz : Size) (lane : Lane) (s : State) :
    BusMeaning .read sz .uart (offsetOf 0xF8 lane) s (exec (.rdUartAccen1 sz lane) s) := by
  show BusMeaning _ _ _ _ _ (execRdUartAccen1 sz lane s)
  unfold execRdUartAccen1
  exact .read 0xF8 lane _ _ rfl (offsetOf_val _ _ (by decide)) (.quiet _)

theorem busMeaning_wrUartAccen1 (sz : Size) (lane : Lane) (data : Word) (s : State) :
    BusMeaning .write sz .uart (offsetOf 0xF8 lane) s (exec (.wrUartAccen1 sz lane data) s) := by
  show BusMeaning _ _ _ _ _ (execWrUartAccen1 sz lane data s)
  unfold execWrUartAccen1
  exact .write 0xF8 lane _ _ _ rfl (offsetOf_val _ _ (by decide)) (.uartWord (fun v u => { u with accen1 := v }) (fun _ _ => ⟨rfl, rfl, rfl, rfl, rfl, rfl, rfl, rfl, rfl, rfl⟩))

theorem busMeaning_rdUartAccen0 (sz : Size) (lane : Lane) (s : State) :
    BusMeaning .read sz .uart (offsetOf 0xFC lane) s (exec (.rdUartAccen0 sz lane) s) := by
  show BusMeaning _ _ _ _ _ (execRdUartAccen0 sz lane s)
  unfold execRdUartAccen0
  exact .read 0xFC lane _ _ rfl (offsetOf_val _ _ (by decide)) (.quiet _)

theorem busMeaning_wrUartAccen0 (sz : Size) (lane : Lane) (data : Word) (s : State) :
    BusMeaning .write sz .uart (offsetOf 0xFC lane) s (exec (.wrUartAccen0 sz lane data) s) := by
  show BusMeaning _ _ _ _ _ (execWrUartAccen0 sz lane data s)
  unfold execWrUartAccen0
  exact .write 0xFC lane _ _ _ rfl (offsetOf_val _ _ (by decide)) (.uartWord (fun v u => { u with accen0 := v }) (fun _ _ => ⟨rfl, rfl, rfl, rfl, rfl, rfl, rfl, rfl, rfl, rfl⟩))

theorem busMeaning_rdIrUndeclared (sz : Size) (off : Offset) (s : State) :
    BusMeaning .read sz .ir off s (exec (.rdIrUndeclared sz off) s) := by
  show BusMeaning _ _ _ _ _ (execRdIrUndeclared sz off s)
  unfold execRdIrUndeclared
  exact .undeclaredRead rfl

theorem busMeaning_wrIrUndeclared (sz : Size) (off : Offset) (data : Word) (s : State) :
    BusMeaning .write sz .ir off s (exec (.wrIrUndeclared sz off data) s) := by
  show BusMeaning _ _ _ _ _ (execWrIrUndeclared sz off data s)
  unfold execWrIrUndeclared
  exact .undeclaredWrite rfl

theorem busMeaning_rdCcuUndeclared (sz : Size) (off : Offset) (s : State) :
    BusMeaning .read sz .ccu off s (exec (.rdCcuUndeclared sz off) s) := by
  show BusMeaning _ _ _ _ _ (execRdCcuUndeclared sz off s)
  unfold execRdCcuUndeclared
  exact .undeclaredRead rfl

theorem busMeaning_wrCcuUndeclared (sz : Size) (off : Offset) (data : Word) (s : State) :
    BusMeaning .write sz .ccu off s (exec (.wrCcuUndeclared sz off data) s) := by
  show BusMeaning _ _ _ _ _ (execWrCcuUndeclared sz off data s)
  unfold execWrCcuUndeclared
  exact .undeclaredWrite rfl

theorem busMeaning_rdStmUndeclared (sz : Size) (off : Offset) (s : State) :
    BusMeaning .read sz .stm off s (exec (.rdStmUndeclared sz off) s) := by
  show BusMeaning _ _ _ _ _ (execRdStmUndeclared sz off s)
  unfold execRdStmUndeclared
  exact .undeclaredRead rfl

theorem busMeaning_wrStmUndeclared (sz : Size) (off : Offset) (data : Word) (s : State) :
    BusMeaning .write sz .stm off s (exec (.wrStmUndeclared sz off data) s) := by
  show BusMeaning _ _ _ _ _ (execWrStmUndeclared sz off data s)
  unfold execWrStmUndeclared
  exact .undeclaredWrite rfl

theorem busMeaning_rdUartUndeclared (sz : Size) (off : Offset) (s : State) :
    BusMeaning .read sz .uart off s (exec (.rdUartUndeclared sz off) s) := by
  show BusMeaning _ _ _ _ _ (execRdUartUndeclared sz off s)
  unfold execRdUartUndeclared
  split
  · exact .read _ _ _ _ rfl (wordOffset_laneOf _) (.quiet _)
  · exact .read _ _ _ _ rfl (wordOffset_laneOf _) (.quiet _)
  · exact .undeclaredRead rfl

theorem busMeaning_wrUartUndeclared (sz : Size) (off : Offset) (data : Word) (ans : Answer) (s : State) :
    BusMeaning .write sz .uart off s (exec (.wrUartUndeclared sz off data ans) s) := by
  show BusMeaning _ _ _ _ _ (execWrUartUndeclared sz off data ans s)
  unfold execWrUartUndeclared
  split
  · rename_i h
    exact .write _ _ _ _ _ rfl (wordOffset_laneOf _) (.blkAddr (blkRegAt_present h))
  · rename_i h
    exact .write _ _ _ _ _ rfl (wordOffset_laneOf _) (.blkLen (blkRegAt_present h) ans)
  · exact .undeclaredWrite rfl

/-- Everything a bus access can do. -/
theorem exec_bus (i : Instr) (s : State) {d : Dir} {sz : Size} {u : UnitId} {off : Offset} (hf : i.form = .bus d sz u off) :
    BusMeaning d sz u off s (exec i s) := by
  cases i <;> cases hf
  case rdIrSrc.refl => apply busMeaning_rdIrSrc
  case wrIrSrc.refl => apply busMeaning_wrIrSrc
  case rdCcuPllstat.refl => apply busMeaning_rdCcuPllstat
  case wrCcuPllstat.refl => apply busMeaning_wrCcuPllstat
  case rdCcuPllcon0.refl => apply busMeaning_rdCcuPllcon0
  case wrCcuPllcon0.refl => apply busMeaning_wrCcuPllcon0
  case rdCcuPllcon1.refl => apply busMeaning_rdCcuPllcon1
  case wrCcuPllcon1.refl => apply busMeaning_wrCcuPllcon1
  case rdCcuCcucon0.refl => apply busMeaning_rdCcuCcucon0
  case wrCcuCcucon0.refl => apply busMeaning_wrCcuCcucon0
  case rdCcuCcucon1.refl => apply busMeaning_rdCcuCcucon1
  case wrCcuCcucon1.refl => apply busMeaning_wrCcuCcucon1
  case rdStmClc.refl => apply busMeaning_rdStmClc
  case wrStmClc.refl => apply busMeaning_wrStmClc
  case rdStmId.refl => apply busMeaning_rdStmId
  case wrStmId.refl => apply busMeaning_wrStmId
  case rdStmTim0.refl => apply busMeaning_rdStmTim0
  case wrStmTim0.refl => apply busMeaning_wrStmTim0
  case rdStmTim1.refl => apply busMeaning_rdStmTim1
  case wrStmTim1.refl => apply busMeaning_wrStmTim1
  case rdStmTim2.refl => apply busMeaning_rdStmTim2
  case wrStmTim2.refl => apply busMeaning_wrStmTim2
  case rdStmTim3.refl => apply busMeaning_rdStmTim3
  case wrStmTim3.refl => apply busMeaning_wrStmTim3
  case rdStmTim4.refl => apply busMeaning_rdStmTim4
  case wrStmTim4.refl => apply busMeaning_wrStmTim4
  case rdStmTim5.refl => apply busMeaning_rdStmTim5
  case wrStmTim5.refl => apply busMeaning_wrStmTim5
  case rdStmTim6.refl => apply busMeaning_rdStmTim6
  case wrStmTim6.refl => apply busMeaning_wrStmTim6
  case rdStmCap.refl => apply busMeaning_rdStmCap
  case wrStmCap.refl => apply busMeaning_wrStmCap
  case rdStmCmp0.refl => apply busMeaning_rdStmCmp0
  case wrStmCmp0.refl => apply busMeaning_wrStmCmp0
  case rdStmCmp1.refl => apply busMeaning_rdStmCmp1
  case wrStmCmp1.refl => apply busMeaning_wrStmCmp1
  case rdStmCmcon.refl => apply busMeaning_rdStmCmcon
  case wrStmCmcon.refl => apply busMeaning_wrStmCmcon
  case rdStmIcr.refl => apply busMeaning_rdStmIcr
  case wrStmIcr.refl => apply busMeaning_wrStmIcr
  case rdStmIscr.refl => apply busMeaning_rdStmIscr
  case wrStmIscr.refl => apply busMeaning_wrStmIscr
  case rdStmTim0sv.refl => apply busMeaning_rdStmTim0sv
  case wrStmTim0sv.refl => apply busMeaning_wrStmTim0sv
  case rdStmCapsv.refl => apply busMeaning_rdStmCapsv
  case wrStmCapsv.refl => apply busMeaning_wrStmCapsv
  case rdStmOcs.refl => apply busMeaning_rdStmOcs
  case wrStmOcs.refl => apply busMeaning_wrStmOcs
  case rdStmKrstclr.refl => apply busMeaning_rdStmKrstclr
  case wrStmKrstclr.refl => apply busMeaning_wrStmKrstclr
  case rdStmKrst1.refl => apply busMeaning_rdStmKrst1
  case wrStmKrst1.refl => apply busMeaning_wrStmKrst1
  case rdStmKrst0.refl => apply busMeaning_rdStmKrst0
  case wrStmKrst0.refl => apply busMeaning_wrStmKrst0
  case rdStmAccen1.refl => apply busMeaning_rdStmAccen1
  case wrStmAccen1.refl => apply busMeaning_wrStmAccen1
  case rdStmAccen0.refl => apply busMeaning_rdStmAccen0
  case wrStmAccen0.refl => apply busMeaning_wrStmAccen0
  case rdUartClc.refl => apply busMeaning_rdUartClc
  case wrUartClc.refl => apply busMeaning_wrUartClc
  case rdUartIocr.refl => apply busMeaning_rdUartIocr
  case wrUartIocr.refl => apply busMeaning_wrUartIocr
  case rdUartId.refl => apply busMeaning_rdUartId
  case wrUartId.refl => apply busMeaning_wrUartId
  case rdUartTxfifocon.refl => apply busMeaning_rdUartTxfifocon
  case wrUartTxfifocon.refl => apply busMeaning_wrUartTxfifocon
  case rdUartRxfifocon.refl => apply busMeaning_rdUartRxfifocon
  case wrUartRxfifocon.refl => apply busMeaning_wrUartRxfifocon
  case rdUartBitcon.refl => apply busMeaning_rdUartBitcon
  case wrUartBitcon.refl => apply busMeaning_wrUartBitcon
  case rdUartFramecon.refl => apply busMeaning_rdUartFramecon
  case wrUartFramecon.refl => apply busMeaning_wrUartFramecon
  case rdUartDatcon.refl => apply busMeaning_rdUartDatcon
  case wrUartDatcon.refl => apply busMeaning_wrUartDatcon
  case rdUartBrg.refl => apply busMeaning_rdUartBrg
  case wrUartBrg.refl => apply busMeaning_wrUartBrg
  case rdUartBrd.refl => apply busMeaning_rdUartBrd
  case wrUartBrd.refl => apply busMeaning_wrUartBrd
  case rdUartLincon.refl => apply busMeaning_rdUartLincon
  case wrUartLincon.refl => apply busMeaning_wrUartLincon
  case rdUartLinbtimer.refl => apply busMeaning_rdUartLinbtimer
  case wrUartLinbtimer.refl => apply busMeaning_wrUartLinbtimer
  case rdUartLinhtimer.refl => apply busMeaning_rdUartLinhtimer
  case wrUartLinhtimer.refl => apply busMeaning_wrUartLinhtimer
  case rdUartFlags.refl => apply busMeaning_rdUartFlags
  case wrUartFlags.refl => apply busMeaning_wrUartFlags
  case rdUartFlagsset.refl => apply busMeaning_rdUartFlagsset
  case wrUartFlagsset.refl => apply busMeaning_wrUartFlagsset
  case rdUartFlagsclear.refl => apply busMeaning_rdUartFlagsclear
  case wrUartFlagsclear.refl => apply busMeaning_wrUartFlagsclear
  case rdUartFlagsenable.refl => apply busMeaning_rdUartFlagsenable
  case wrUartFlagsenable.refl => apply busMeaning_wrUartFlagsenable
  case rdUartTxdata.refl => apply busMeaning_rdUartTxdata
  case wrUartTxdata.refl => apply busMeaning_wrUartTxdata
  case rdUartRxdata.refl => apply busMeaning_rdUartRxdata
  case wrUartRxdata.refl => apply busMeaning_wrUartRxdata
  case rdUartCsr.refl => apply busMeaning_rdUartCsr
  case wrUartCsr.refl => apply busMeaning_wrUartCsr
  case rdUartRxdatad.refl => apply busMeaning_rdUartRxdatad
  case wrUartRxdatad.refl => apply busMeaning_wrUartRxdatad
  case rdUartOcs.refl => apply busMeaning_rdUartOcs
  case wrUartOcs.refl => apply busMeaning_wrUartOcs
  case rdUartKrstclr.refl => apply busMeaning_rdUartKrstclr
  case wrUartKrstclr.refl => apply busMeaning_wrUartKrstclr
  case rdUartKrst1.refl => apply busMeaning_rdUartKrst1
  case wrUartKrst1.refl => apply busMeaning_wrUartKrst1
  case rdUartKrst0.refl => apply busMeaning_rdUartKrst0
  case wrUartKrst0.refl => apply busMeaning_wrUartKrst0
  case rdUartAccen1.refl => apply busMeaning_rdUartAccen1
  case wrUartAccen1.refl => apply busMeaning_wrUartAccen1
  case rdUartAccen0.refl => apply busMeaning_rdUartAccen0
  case wrUartAccen0.refl => apply busMeaning_wrUartAccen0
  case rdIrUndeclared.refl => apply busMeaning_rdIrUndeclared
  case wrIrUndeclared.refl => apply busMeaning_wrIrUndeclared
  case rdCcuUndeclared.refl => apply busMeaning_rdCcuUndeclared
  case wrCcuUndeclared.refl => apply busMeaning_wrCcuUndeclared
  case rdStmUndeclared.refl => apply busMeaning_rdStmUndeclared
  case wrStmUndeclared.refl => apply busMeaning_wrStmUndeclared
  case rdUartUndeclared.refl => apply busMeaning_rdUartUndeclared
  case wrUartUndeclared.refl => apply busMeaning_wrUartUndeclared

end Sys2Proof.Machine
end

