-- ==== Sys2Proof/Laws/PerInstr.lean ====
section
/-! SUPPORT. The families of statements made per operation. `FormRoundTrip`: the decoder reads an operation back from the fields and
operands its encoding has, every operand at every value. One lemma per constructor of `Instr`. -/

namespace Sys2Proof.Laws

open Sys2Proof

/-- The decoder reads the operation `i` back from its descriptor's fields and its operands. -/
def FormRoundTrip.Statement (i : Instr) : Prop := i.wellFormed = true → decodeForm i.form i.operand = .ok i

/-- The offset of a source word splits back into the index and the lane (R120, R157). -/
theorem srcOffset_splits (i : SourceIndex) (lane : Lane) :
    irUndeclared (offsetOf (4 * i.val) lane) = false ∧
      Fin.ofNat 256 ((offsetOf (4 * i.val) lane).val / 4) = i ∧ laneOf (offsetOf (4 * i.val) lane) = lane := by
  have hi := i.isLt
  have hl := lane.isLt
  have hv : (offsetOf (4 * i.val) lane).val = 4 * i.val + lane.val := by
    simp only [offsetOf, Fin.ofNat_eq_cast, Fin.val_natCast]
    omega
  refine ⟨?_, ?_, ?_⟩
  · simp only [irUndeclared, hv]
    simp
    omega
  · ext
    simp only [hv, Fin.ofNat_eq_cast, Fin.val_natCast]
    omega
  · ext
    simp only [laneOf, hv, Fin.ofNat_eq_cast, Fin.val_natCast]
    omega

theorem decodeCcuRead_undeclared (sz : Size) (off : Offset) (h : ccuUndeclared off = true) :
    decodeCcuRead sz off = .rdCcuUndeclared sz off := by
  unfold decodeCcuRead
  split <;> first | rfl | (rename_i e; simp [ccuUndeclared, ccuDeclared, e] at h)

theorem decodeCcuWrite_undeclared (sz : Size) (off : Offset) (a : Operand) (h : ccuUndeclared off = true) :
    decodeCcuWrite sz off a = .wrCcuUndeclared sz off a.data := by
  unfold decodeCcuWrite
  split <;> first | rfl | (rename_i e; simp [ccuUndeclared, ccuDeclared, e] at h)

theorem decodeStmRead_undeclared (sz : Size) (off : Offset) (h : stmUndeclared off = true) :
    decodeStmRead sz off = .rdStmUndeclared sz off := by
  unfold decodeStmRead
  split <;> first | rfl | (rename_i e; simp [stmUndeclared, stmDeclared, e] at h)

theorem decodeStmWrite_undeclared (sz : Size) (off : Offset) (a : Operand) (h : stmUndeclared off = true) :
    decodeStmWrite sz off a = .wrStmUndeclared sz off a.data := by
  unfold decodeStmWrite
  split <;> first | rfl | (rename_i e; simp [stmUndeclared, stmDeclared, e] at h)

theorem decodeUartRead_undeclared (sz : Size) (off : Offset) (h : uartUndeclared off = true) :
    decodeUartRead sz off = .rdUartUndeclared sz off := by
  unfold decodeUartRead
  split <;> first | rfl | (rename_i e; simp [uartUndeclared, uartDeclared, e] at h)

theorem decodeUartWrite_undeclared (sz : Size) (off : Offset) (a : Operand) (h : uartUndeclared off = true) :
    decodeUartWrite sz off a = .wrUartUndeclared sz off a.data a.ans := by
  unfold decodeUartWrite
  split <;> first | rfl | (rename_i e; simp [uartUndeclared, uartDeclared, e] at h)

theorem FormRoundTrip.rdIrSrc (i : SourceIndex) (sz : Size) (lane : Lane) : FormRoundTrip.Statement (.rdIrSrc i sz lane) := by
  intro _
  obtain ⟨h1, h2, h3⟩ := srcOffset_splits i lane
  simp only [Instr.form, decodeForm, decodeBus, decodeIr, h1, h2, h3]
  rfl

theorem FormRoundTrip.wrIrSrc (i : SourceIndex) (sz : Size) (lane : Lane) (data : Word) : FormRoundTrip.Statement (.wrIrSrc i sz lane data) := by
  intro _
  obtain ⟨h1, h2, h3⟩ := srcOffset_splits i lane
  simp only [Instr.form, decodeForm, decodeBus, decodeIr, h1, h2, h3]
  rfl

theorem FormRoundTrip.rdCcuPllstat (sz : Size) (lane : Lane) : FormRoundTrip.Statement (.rdCcuPllstat sz lane) := by
  intro _
  fin_cases lane <;> rfl

theorem FormRoundTrip.wrCcuPllstat (sz : Size) (lane : Lane) (data : Word) : FormRoundTrip.Statement (.wrCcuPllstat sz lane data) := by
  intro _
  fin_cases lane <;> rfl

theorem FormRoundTrip.rdCcuPllcon0 (sz : Size) (lane : Lane) : FormRoundTrip.Statement (.rdCcuPllcon0 sz lane) := by
  intro _
  fin_cases lane <;> rfl

theorem FormRoundTrip.wrCcuPllcon0 (sz : Size) (lane : Lane) (data : Word) : FormRoundTrip.Statement (.wrCcuPllcon0 sz lane data) := by
  intro _
  fin_cases lane <;> rfl

theorem FormRoundTrip.rdCcuPllcon1 (sz : Size) (lane : Lane) : FormRoundTrip.Statement (.rdCcuPllcon1 sz lane) := by
  intro _
  fin_cases lane <;> rfl

theorem FormRoundTrip.wrCcuPllcon1 (sz : Size) (lane : Lane) (data : Word) : FormRoundTrip.Statement (.wrCcuPllcon1 sz lane data) := by
  intro _
  fin_cases lane <;> rfl

theorem FormRoundTrip.rdCcuCcucon0 (sz : Size) (lane : Lane) : FormRoundTrip.Statement (.rdCcuCcucon0 sz lane) := by
  intro _
  fin_cases lane <;> rfl

theorem FormRoundTrip.wrCcuCcucon0 (sz : Size) (lane : Lane) (data : Word) : FormRoundTrip.Statement (.wrCcuCcucon0 sz lane data) := by
  intro _
  fin_cases lane <;> rfl

theorem FormRoundTrip.rdCcuCcucon1 (sz : Size) (lane : Lane) : FormRoundTrip.Statement (.rdCcuCcucon1 sz lane) := by
  intro _
  fin_cases lane <;> rfl

theorem FormRoundTrip.wrCcuCcucon1 (sz : Size) (lane : Lane) (data : Word) : FormRoundTrip.Statement (.wrCcuCcucon1 sz lane data) := by
  intro _
  fin_cases lane <;> rfl

theorem FormRoundTrip.rdStmClc (sz : Size) (lane : Lane) : FormRoundTrip.Statement (.rdStmClc sz lane) := by
  intro _
  fin_cases lane <;> rfl

theorem FormRoundTrip.wrStmClc (sz : Size) (lane : Lane) (data : Word) : FormRoundTrip.Statement (.wrStmClc sz lane data) := by
  intro _
  fin_cases lane <;> rfl

theorem FormRoundTrip.rdStmId (sz : Size) (lane : Lane) : FormRoundTrip.Statement (.rdStmId sz lane) := by
  intro _
  fin_cases lane <;> rfl

theorem FormRoundTrip.wrStmId (sz : Size) (lane : Lane) (data : Word) : FormRoundTrip.Statement (.wrStmId sz lane data) := by
  intro _
  fin_cases lane <;> rfl

theorem FormRoundTrip.rdStmTim0 (sz : Size) (lane : Lane) : FormRoundTrip.Statement (.rdStmTim0 sz lane) := by
  intro _
  fin_cases lane <;> rfl

theorem FormRoundTrip.wrStmTim0 (sz : Size) (lane : Lane) (data : Word) : FormRoundTrip.Statement (.wrStmTim0 sz lane data) := by
  intro _
  fin_cases lane <;> rfl

theorem FormRoundTrip.rdStmTim1 (sz : Size) (lane : Lane) : FormRoundTrip.Statement (.rdStmTim1 sz lane) := by
  intro _
  fin_cases lane <;> rfl

theorem FormRoundTrip.wrStmTim1 (sz : Size) (lane : Lane) (data : Word) : FormRoundTrip.Statement (.wrStmTim1 sz lane data) := by
  intro _
  fin_cases lane <;> rfl

theorem FormRoundTrip.rdStmTim2 (sz : Size) (lane : Lane) : FormRoundTrip.Statement (.rdStmTim2 sz lane) := by
  intro _
  fin_cases lane <;> rfl

theorem FormRoundTrip.wrStmTim2 (sz : Size) (lane : Lane) (data : Word) : FormRoundTrip.Statement (.wrStmTim2 sz lane data) := by
  intro _
  fin_cases lane <;> rfl

theorem FormRoundTrip.rdStmTim3 (sz : Size) (lane : Lane) : FormRoundTrip.Statement (.rdStmTim3 sz lane) := by
  intro _
  fin_cases lane <;> rfl

theorem FormRoundTrip.wrStmTim3 (sz : Size) (lane : Lane) (data : Word) : FormRoundTrip.Statement (.wrStmTim3 sz lane data) := by
  intro _
  fin_cases lane <;> rfl

theorem FormRoundTrip.rdStmTim4 (sz : Size) (lane : Lane) : FormRoundTrip.Statement (.rdStmTim4 sz lane) := by
  intro _
  fin_cases lane <;> rfl

theorem FormRoundTrip.wrStmTim4 (sz : Size) (lane : Lane) (data : Word) : FormRoundTrip.Statement (.wrStmTim4 sz lane data) := by
  intro _
  fin_cases lane <;> rfl

theorem FormRoundTrip.rdStmTim5 (sz : Size) (lane : Lane) : FormRoundTrip.Statement (.rdStmTim5 sz lane) := by
  intro _
  fin_cases lane <;> rfl

theorem FormRoundTrip.wrStmTim5 (sz : Size) (lane : Lane) (data : Word) : FormRoundTrip.Statement (.wrStmTim5 sz lane data) := by
  intro _
  fin_cases lane <;> rfl

theorem FormRoundTrip.rdStmTim6 (sz : Size) (lane : Lane) : FormRoundTrip.Statement (.rdStmTim6 sz lane) := by
  intro _
  fin_cases lane <;> rfl

theorem FormRoundTrip.wrStmTim6 (sz : Size) (lane : Lane) (data : Word) : FormRoundTrip.Statement (.wrStmTim6 sz lane data) := by
  intro _
  fin_cases lane <;> rfl

theorem FormRoundTrip.rdStmCap (sz : Size) (lane : Lane) : FormRoundTrip.Statement (.rdStmCap sz lane) := by
  intro _
  fin_cases lane <;> rfl

theorem FormRoundTrip.wrStmCap (sz : Size) (lane : Lane) (data : Word) : FormRoundTrip.Statement (.wrStmCap sz lane data) := by
  intro _
  fin_cases lane <;> rfl

theorem FormRoundTrip.rdStmCmp0 (sz : Size) (lane : Lane) : FormRoundTrip.Statement (.rdStmCmp0 sz lane) := by
  intro _
  fin_cases lane <;> rfl

theorem FormRoundTrip.wrStmCmp0 (sz : Size) (lane : Lane) (data : Word) : FormRoundTrip.Statement (.wrStmCmp0 sz lane data) := by
  intro _
  fin_cases lane <;> rfl

theorem FormRoundTrip.rdStmCmp1 (sz : Size) (lane : Lane) : FormRoundTrip.Statement (.rdStmCmp1 sz lane) := by
  intro _
  fin_cases lane <;> rfl

theorem FormRoundTrip.wrStmCmp1 (sz : Size) (lane : Lane) (data : Word) : FormRoundTrip.Statement (.wrStmCmp1 sz lane data) := by
  intro _
  fin_cases lane <;> rfl

theorem FormRoundTrip.rdStmCmcon (sz : Size) (lane : Lane) : FormRoundTrip.Statement (.rdStmCmcon sz lane) := by
  intro _
  fin_cases lane <;> rfl

theorem FormRoundTrip.wrStmCmcon (sz : Size) (lane : Lane) (data : Word) : FormRoundTrip.Statement (.wrStmCmcon sz lane data) := by
  intro _
  fin_cases lane <;> rfl

theorem FormRoundTrip.rdStmIcr (sz : Size) (lane : Lane) : FormRoundTrip.Statement (.rdStmIcr sz lane) := by
  intro _
  fin_cases lane <;> rfl

theorem FormRoundTrip.wrStmIcr (sz : Size) (lane : Lane) (data : Word) : FormRoundTrip.Statement (.wrStmIcr sz lane data) := by
  intro _
  fin_cases lane <;> rfl

theorem FormRoundTrip.rdStmIscr (sz : Size) (lane : Lane) : FormRoundTrip.Statement (.rdStmIscr sz lane) := by
  intro _
  fin_cases lane <;> rfl

theorem FormRoundTrip.wrStmIscr (sz : Size) (lane : Lane) (data : Word) : FormRoundTrip.Statement (.wrStmIscr sz lane data) := by
  intro _
  fin_cases lane <;> rfl

theorem FormRoundTrip.rdStmTim0sv (sz : Size) (lane : Lane) : FormRoundTrip.Statement (.rdStmTim0sv sz lane) := by
  intro _
  fin_cases lane <;> rfl

theorem FormRoundTrip.wrStmTim0sv (sz : Size) (lane : Lane) (data : Word) : FormRoundTrip.Statement (.wrStmTim0sv sz lane data) := by
  intro _
  fin_cases lane <;> rfl

theorem FormRoundTrip.rdStmCapsv (sz : Size) (lane : Lane) : FormRoundTrip.Statement (.rdStmCapsv sz lane) := by
  intro _
  fin_cases lane <;> rfl

theorem FormRoundTrip.wrStmCapsv (sz : Size) (lane : Lane) (data : Word) : FormRoundTrip.Statement (.wrStmCapsv sz lane data) := by
  intro _
  fin_cases lane <;> rfl

theorem FormRoundTrip.rdStmOcs (sz : Size) (lane : Lane) : FormRoundTrip.Statement (.rdStmOcs sz lane) := by
  intro _
  fin_cases lane <;> rfl

theorem FormRoundTrip.wrStmOcs (sz : Size) (lane : Lane) (data : Word) : FormRoundTrip.Statement (.wrStmOcs sz lane data) := by
  intro _
  fin_cases lane <;> rfl

theorem FormRoundTrip.rdStmKrstclr (sz : Size) (lane : Lane) : FormRoundTrip.Statement (.rdStmKrstclr sz lane) := by
  intro _
  fin_cases lane <;> rfl

theorem FormRoundTrip.wrStmKrstclr (sz : Size) (lane : Lane) (data : Word) : FormRoundTrip.Statement (.wrStmKrstclr sz lane data) := by
  intro _
  fin_cases lane <;> rfl

theorem FormRoundTrip.rdStmKrst1 (sz : Size) (lane : Lane) : FormRoundTrip.Statement (.rdStmKrst1 sz lane) := by
  intro _
  fin_cases lane <;> rfl

theorem FormRoundTrip.wrStmKrst1 (sz : Size) (lane : Lane) (data : Word) : FormRoundTrip.Statement (.wrStmKrst1 sz lane data) := by
  intro _
  fin_cases lane <;> rfl

theorem FormRoundTrip.rdStmKrst0 (sz : Size) (lane : Lane) : FormRoundTrip.Statement (.rdStmKrst0 sz lane) := by
  intro _
  fin_cases lane <;> rfl

theorem FormRoundTrip.wrStmKrst0 (sz : Size) (lane : Lane) (data : Word) : FormRoundTrip.Statement (.wrStmKrst0 sz lane data) := by
  intro _
  fin_cases lane <;> rfl

theorem FormRoundTrip.rdStmAccen1 (sz : Size) (lane : Lane) : FormRoundTrip.Statement (.rdStmAccen1 sz lane) := by
  intro _
  fin_cases lane <;> rfl

theorem FormRoundTrip.wrStmAccen1 (sz : Size) (lane : Lane) (data : Word) : FormRoundTrip.Statement (.wrStmAccen1 sz lane data) := by
  intro _
  fin_cases lane <;> rfl

theorem FormRoundTrip.rdStmAccen0 (sz : Size) (lane : Lane) : FormRoundTrip.Statement (.rdStmAccen0 sz lane) := by
  intro _
  fin_cases lane <;> rfl

theorem FormRoundTrip.wrStmAccen0 (sz : Size) (lane : Lane) (data : Word) : FormRoundTrip.Statement (.wrStmAccen0 sz lane data) := by
  intro _
  fin_cases lane <;> rfl

theorem FormRoundTrip.rdUartClc (sz : Size) (lane : Lane) : FormRoundTrip.Statement (.rdUartClc sz lane) := by
  intro _
  fin_cases lane <;> rfl

theorem FormRoundTrip.wrUartClc (sz : Size) (lane : Lane) (data : Word) : FormRoundTrip.Statement (.wrUartClc sz lane data) := by
  intro _
  fin_cases lane <;> rfl

theorem FormRoundTrip.rdUartIocr (sz : Size) (lane : Lane) : FormRoundTrip.Statement (.rdUartIocr sz lane) := by
  intro _
  fin_cases lane <;> rfl

theorem FormRoundTrip.wrUartIocr (sz : Size) (lane : Lane) (data : Word) : FormRoundTrip.Statement (.wrUartIocr sz lane data) := by
  intro _
  fin_cases lane <;> rfl

theorem FormRoundTrip.rdUartId (sz : Size) (lane : Lane) : FormRoundTrip.Statement (.rdUartId sz lane) := by
  intro _
  fin_cases lane <;> rfl

theorem FormRoundTrip.wrUartId (sz : Size) (lane : Lane) (data : Word) : FormRoundTrip.Statement (.wrUartId sz lane data) := by
  intro _
  fin_cases lane <;> rfl

theorem FormRoundTrip.rdUartTxfifocon (sz : Size) (lane : Lane) : FormRoundTrip.Statement (.rdUartTxfifocon sz lane) := by
  intro _
  fin_cases lane <;> rfl

theorem FormRoundTrip.wrUartTxfifocon (sz : Size) (lane : Lane) (data : Word) : FormRoundTrip.Statement (.wrUartTxfifocon sz lane data) := by
  intro _
  fin_cases lane <;> rfl

theorem FormRoundTrip.rdUartRxfifocon (sz : Size) (lane : Lane) : FormRoundTrip.Statement (.rdUartRxfifocon sz lane) := by
  intro _
  fin_cases lane <;> rfl

theorem FormRoundTrip.wrUartRxfifocon (sz : Size) (lane : Lane) (data : Word) : FormRoundTrip.Statement (.wrUartRxfifocon sz lane data) := by
  intro _
  fin_cases lane <;> rfl

theorem FormRoundTrip.rdUartBitcon (sz : Size) (lane : Lane) : FormRoundTrip.Statement (.rdUartBitcon sz lane) := by
  intro _
  fin_cases lane <;> rfl

theorem FormRoundTrip.wrUartBitcon (sz : Size) (lane : Lane) (data : Word) : FormRoundTrip.Statement (.wrUartBitcon sz lane data) := by
  intro _
  fin_cases lane <;> rfl

theorem FormRoundTrip.rdUartFramecon (sz : Size) (lane : Lane) : FormRoundTrip.Statement (.rdUartFramecon sz lane) := by
  intro _
  fin_cases lane <;> rfl

theorem FormRoundTrip.wrUartFramecon (sz : Size) (lane : Lane) (data : Word) : FormRoundTrip.Statement (.wrUartFramecon sz lane data) := by
  intro _
  fin_cases lane <;> rfl

theorem FormRoundTrip.rdUartDatcon (sz : Size) (lane : Lane) : FormRoundTrip.Statement (.rdUartDatcon sz lane) := by
  intro _
  fin_cases lane <;> rfl

theorem FormRoundTrip.wrUartDatcon (sz : Size) (lane : Lane) (data : Word) : FormRoundTrip.Statement (.wrUartDatcon sz lane data) := by
  intro _
  fin_cases lane <;> rfl

theorem FormRoundTrip.rdUartBrg (sz : Size) (lane : Lane) : FormRoundTrip.Statement (.rdUartBrg sz lane) := by
  intro _
  fin_cases lane <;> rfl

theorem FormRoundTrip.wrUartBrg (sz : Size) (lane : Lane) (data : Word) : FormRoundTrip.Statement (.wrUartBrg sz lane data) := by
  intro _
  fin_cases lane <;> rfl

theorem FormRoundTrip.rdUartBrd (sz : Size) (lane : Lane) : FormRoundTrip.Statement (.rdUartBrd sz lane) := by
  intro _
  fin_cases lane <;> rfl

theorem FormRoundTrip.wrUartBrd (sz : Size) (lane : Lane) (data : Word) : FormRoundTrip.Statement (.wrUartBrd sz lane data) := by
  intro _
  fin_cases lane <;> rfl

theorem FormRoundTrip.rdUartLincon (sz : Size) (lane : Lane) : FormRoundTrip.Statement (.rdUartLincon sz lane) := by
  intro _
  fin_cases lane <;> rfl

theorem FormRoundTrip.wrUartLincon (sz : Size) (lane : Lane) (data : Word) : FormRoundTrip.Statement (.wrUartLincon sz lane data) := by
  intro _
  fin_cases lane <;> rfl

theorem FormRoundTrip.rdUartLinbtimer (sz : Size) (lane : Lane) : FormRoundTrip.Statement (.rdUartLinbtimer sz lane) := by
  intro _
  fin_cases lane <;> rfl

theorem FormRoundTrip.wrUartLinbtimer (sz : Size) (lane : Lane) (data : Word) : FormRoundTrip.Statement (.wrUartLinbtimer sz lane data) := by
  intro _
  fin_cases lane <;> rfl

theorem FormRoundTrip.rdUartLinhtimer (sz : Size) (lane : Lane) : FormRoundTrip.Statement (.rdUartLinhtimer sz lane) := by
  intro _
  fin_cases lane <;> rfl

theorem FormRoundTrip.wrUartLinhtimer (sz : Size) (lane : Lane) (data : Word) : FormRoundTrip.Statement (.wrUartLinhtimer sz lane data) := by
  intro _
  fin_cases lane <;> rfl

theorem FormRoundTrip.rdUartFlags (sz : Size) (lane : Lane) : FormRoundTrip.Statement (.rdUartFlags sz lane) := by
  intro _
  fin_cases lane <;> rfl

theorem FormRoundTrip.wrUartFlags (sz : Size) (lane : Lane) (data : Word) : FormRoundTrip.Statement (.wrUartFlags sz lane data) := by
  intro _
  fin_cases lane <;> rfl

theorem FormRoundTrip.rdUartFlagsset (sz : Size) (lane : Lane) : FormRoundTrip.Statement (.rdUartFlagsset sz lane) := by
  intro _
  fin_cases lane <;> rfl

theorem FormRoundTrip.wrUartFlagsset (sz : Size) (lane : Lane) (data : Word) : FormRoundTrip.Statement (.wrUartFlagsset sz lane data) := by
  intro _
  fin_cases lane <;> rfl

theorem FormRoundTrip.rdUartFlagsclear (sz : Size) (lane : Lane) : FormRoundTrip.Statement (.rdUartFlagsclear sz lane) := by
  intro _
  fin_cases lane <;> rfl

theorem FormRoundTrip.wrUartFlagsclear (sz : Size) (lane : Lane) (data : Word) : FormRoundTrip.Statement (.wrUartFlagsclear sz lane data) := by
  intro _
  fin_cases lane <;> rfl

theorem FormRoundTrip.rdUartFlagsenable (sz : Size) (lane : Lane) : FormRoundTrip.Statement (.rdUartFlagsenable sz lane) := by
  intro _
  fin_cases lane <;> rfl

theorem FormRoundTrip.wrUartFlagsenable (sz : Size) (lane : Lane) (data : Word) : FormRoundTrip.Statement (.wrUartFlagsenable sz lane data) := by
  intro _
  fin_cases lane <;> rfl

theorem FormRoundTrip.rdUartTxdata (sz : Size) (lane : Lane) : FormRoundTrip.Statement (.rdUartTxdata sz lane) := by
  intro _
  fin_cases lane <;> rfl

theorem FormRoundTrip.wrUartTxdata (sz : Size) (lane : Lane) (data : Word) (ans : Answer) : FormRoundTrip.Statement (.wrUartTxdata sz lane data ans) := by
  intro _
  fin_cases lane <;> rfl

theorem FormRoundTrip.rdUartRxdata (sz : Size) (lane : Lane) : FormRoundTrip.Statement (.rdUartRxdata sz lane) := by
  intro _
  fin_cases lane <;> rfl

theorem FormRoundTrip.wrUartRxdata (sz : Size) (lane : Lane) (data : Word) : FormRoundTrip.Statement (.wrUartRxdata sz lane data) := by
  intro _
  fin_cases lane <;> rfl

theorem FormRoundTrip.rdUartCsr (sz : Size) (lane : Lane) : FormRoundTrip.Statement (.rdUartCsr sz lane) := by
  intro _
  fin_cases lane <;> rfl

theorem FormRoundTrip.wrUartCsr (sz : Size) (lane : Lane) (data : Word) : FormRoundTrip.Statement (.wrUartCsr sz lane data) := by
  intro _
  fin_cases lane <;> rfl

theorem FormRoundTrip.rdUartRxdatad (sz : Size) (lane : Lane) : FormRoundTrip.Statement (.rdUartRxdatad sz lane) := by
  intro _
  fin_cases lane <;> rfl

theorem FormRoundTrip.wrUartRxdatad (sz : Size) (lane : Lane) (data : Word) : FormRoundTrip.Statement (.wrUartRxdatad sz lane data) := by
  intro _
  fin_cases lane <;> rfl

theorem FormRoundTrip.rdUartOcs (sz : Size) (lane : Lane) : FormRoundTrip.Statement (.rdUartOcs sz lane) := by
  intro _
  fin_cases lane <;> rfl

theorem FormRoundTrip.wrUartOcs (sz : Size) (lane : Lane) (data : Word) : FormRoundTrip.Statement (.wrUartOcs sz lane data) := by
  intro _
  fin_cases lane <;> rfl

theorem FormRoundTrip.rdUartKrstclr (sz : Size) (lane : Lane) : FormRoundTrip.Statement (.rdUartKrstclr sz lane) := by
  intro _
  fin_cases lane <;> rfl

theorem FormRoundTrip.wrUartKrstclr (sz : Size) (lane : Lane) (data : Word) : FormRoundTrip.Statement (.wrUartKrstclr sz lane data) := by
  intro _
  fin_cases lane <;> rfl

theorem FormRoundTrip.rdUartKrst1 (sz : Size) (lane : Lane) : FormRoundTrip.Statement (.rdUartKrst1 sz lane) := by
  intro _
  fin_cases lane <;> rfl

theorem FormRoundTrip.wrUartKrst1 (sz : Size) (lane : Lane) (data : Word) : FormRoundTrip.Statement (.wrUartKrst1 sz lane data) := by
  intro _
  fin_cases lane <;> rfl

theorem FormRoundTrip.rdUartKrst0 (sz : Size) (lane : Lane) : FormRoundTrip.Statement (.rdUartKrst0 sz lane) := by
  intro _
  fin_cases lane <;> rfl

theorem FormRoundTrip.wrUartKrst0 (sz : Size) (lane : Lane) (data : Word) : FormRoundTrip.Statement (.wrUartKrst0 sz lane data) := by
  intro _
  fin_cases lane <;> rfl

theorem FormRoundTrip.rdUartAccen1 (sz : Size) (lane : Lane) : FormRoundTrip.Statement (.rdUartAccen1 sz lane) := by
  intro _
  fin_cases lane <;> rfl

theorem FormRoundTrip.wrUartAccen1 (sz : Size) (lane : Lane) (data : Word) : FormRoundTrip.Statement (.wrUartAccen1 sz lane data) := by
  intro _
  fin_cases lane <;> rfl

theorem FormRoundTrip.rdUartAccen0 (sz : Size) (lane : Lane) : FormRoundTrip.Statement (.rdUartAccen0 sz lane) := by
  intro _
  fin_cases lane <;> rfl

theorem FormRoundTrip.wrUartAccen0 (sz : Size) (lane : Lane) (data : Word) : FormRoundTrip.Statement (.wrUartAccen0 sz lane data) := by
  intro _
  fin_cases lane <;> rfl

theorem FormRoundTrip.rdIrUndeclared (sz : Size) (off : Offset) : FormRoundTrip.Statement (.rdIrUndeclared sz off) := by
  intro h
  have hu : irUndeclared off = true := h
  simp only [Instr.form, decodeForm, decodeBus, decodeIr, hu]
  rfl

theorem FormRoundTrip.wrIrUndeclared (sz : Size) (off : Offset) (data : Word) : FormRoundTrip.Statement (.wrIrUndeclared sz off data) := by
  intro h
  have hu : irUndeclared off = true := h
  simp only [Instr.form, decodeForm, decodeBus, decodeIr, hu]
  rfl

theorem FormRoundTrip.rdCcuUndeclared (sz : Size) (off : Offset) : FormRoundTrip.Statement (.rdCcuUndeclared sz off) := by
  intro h
  simp only [Instr.form, decodeForm, decodeBus, decodeCcuRead_undeclared _ _ h]

theorem FormRoundTrip.wrCcuUndeclared (sz : Size) (off : Offset) (data : Word) : FormRoundTrip.Statement (.wrCcuUndeclared sz off data) := by
  intro h
  simp only [Instr.form, decodeForm, decodeBus, decodeCcuWrite_undeclared _ _ _ h]
  rfl

theorem FormRoundTrip.rdStmUndeclared (sz : Size) (off : Offset) : FormRoundTrip.Statement (.rdStmUndeclared sz off) := by
  intro h
  simp only [Instr.form, decodeForm, decodeBus, decodeStmRead_undeclared _ _ h]

theorem FormRoundTrip.wrStmUndeclared (sz : Size) (off : Offset) (data : Word) : FormRoundTrip.Statement (.wrStmUndeclared sz off data) := by
  intro h
  simp only [Instr.form, decodeForm, decodeBus, decodeStmWrite_undeclared _ _ _ h]
  rfl

theorem FormRoundTrip.rdUartUndeclared (sz : Size) (off : Offset) : FormRoundTrip.Statement (.rdUartUndeclared sz off) := by
  intro h
  simp only [Instr.form, decodeForm, decodeBus, decodeUartRead_undeclared _ _ h]

theorem FormRoundTrip.wrUartUndeclared (sz : Size) (off : Offset) (data : Word) (ans : Answer) : FormRoundTrip.Statement (.wrUartUndeclared sz off data ans) := by
  intro h
  simp only [Instr.form, decodeForm, decodeBus, decodeUartWrite_undeclared _ _ _ h]
  rfl

theorem FormRoundTrip.evReset (u : UnitId) : FormRoundTrip.Statement (.evReset u) := by
  intro _
  cases u <;> rfl

theorem FormRoundTrip.evResetAll : FormRoundTrip.Statement (.evResetAll) := by
  intro _
  rfl

theorem FormRoundTrip.evTime (delta : Nat) : FormRoundTrip.Statement (.evTime delta) := by
  intro _
  rfl

theorem FormRoundTrip.evAlarm : FormRoundTrip.Statement (.evAlarm) := by
  intro _
  rfl

theorem FormRoundTrip.evRx (bytes : List Byte) : FormRoundTrip.Statement (.evRx bytes) := by
  intro _
  rfl

theorem FormRoundTrip.evWritable (ans : Answer) : FormRoundTrip.Statement (.evWritable ans) := by
  intro _
  rfl

theorem FormRoundTrip.evLock (l : Bool) : FormRoundTrip.Statement (.evLock l) := by
  intro _
  cases l <;> rfl

theorem FormRoundTrip.evLevel (i : SourceIndex) (l : Bool) : FormRoundTrip.Statement (.evLevel i l) := by
  intro _
  have hi := i.isLt
  cases l
  · have e : Fin.ofNat 256 i.val = i := by ext; simp
    have hlt : i.val < 512 := by omega
    have hb : i.val / 256 % 2 = 0 := by omega
    simp [Instr.form, decodeForm, decodeEvent, payloadBelow, hlt, hb]
  · have hlt : 256 + i.val < 512 := by omega
    have hb : (256 + i.val) / 256 % 2 = 1 := by omega
    have e : Fin.ofNat 256 (256 + i.val) = i := by
      ext
      simp only [Fin.ofNat_eq_cast, Fin.val_natCast]
      omega
    simp only [Instr.form, decodeForm, decodeEvent, payloadBelow, Bool.toNat_true, Nat.one_mul, hlt, hb, e]
    rfl

theorem FormRoundTrip.evSnapshot : FormRoundTrip.Statement (.evSnapshot) := by
  intro _
  rfl

theorem FormRoundTrip.evRestore (blob : Machine.Block) : FormRoundTrip.Statement (.evRestore blob) := by
  intro _
  rfl

end Sys2Proof.Laws
end

