-- ==== Sys2Proof/Laws/Units.lean ====
section
/-! SUPPORT. What the shared operations do, said once and in full: the source word and its slot, the byte lanes, arming, the dispatch of a
transmit item, the receive of a burst. -/

namespace Sys2Proof.Machine

/-- The read value of a source word is the word of R121. -/
theorem srcRead_eq (x : Source) : srcRead x = sourceWord x := by
  obtain ⟨p, e, q⟩ := x
  revert p e q
  decide +kernel

/-- The sources of a router after one was replaced. -/
theorem Router.source_setSource (r : Router) (i j : SourceIndex) (x : Source) :
    (r.setSource i x).source j = if j = i then x else r.source j := by
  by_cases h : j = i
  · subst h; simp
  · simp [h, Router.source_setSource_other]

/-- The mask of an access is its size in ones. -/
theorem laneMask_getLsbD (sz : Size) (k : Nat) (hk : k < 32) : (laneMask sz).getLsbD k = decide (k < 8 * sizeBytes sz) := by
  cases sz <;> (unfold laneMask sizeBytes; revert k; decide)

/-- The merged word, bit by bit: the data's in the covered lanes, the current word's elsewhere. -/
theorem mergeLanes_getLsbD (cur d : Word) (lane : Lane) (sz : Size) (k : Nat) (hk : k < 32) : (mergeLanes cur d lane sz).getLsbD k =
    if 8 * lane.val ≤ k ∧ k < 8 * lane.val + 8 * sizeBytes sz then d.getLsbD (k - 8 * lane.val) else cur.getLsbD k := by
  unfold mergeLanes
  simp only [BitVec.getLsbD_or, BitVec.getLsbD_and, BitVec.getLsbD_not, BitVec.getLsbD_shiftLeft, hk, decide_true, Bool.true_and]
  rw [laneMask_getLsbD _ (k - 8 * lane.val) (by omega)]
  by_cases h1 : 8 * lane.val ≤ k <;> by_cases h2 : k < 8 * lane.val + 8 * sizeBytes sz
  · have : k - 8 * lane.val < 8 * sizeBytes sz := by omega
    have : ¬ k < 8 * lane.val := by omega
    simp [*]
  · have : ¬ k - 8 * lane.val < 8 * sizeBytes sz := by omega
    have : ¬ k < 8 * lane.val := by omega
    simp [*]
  · have : k < 8 * lane.val := by omega
    simp [*]
  · have : k < 8 * lane.val := by omega
    simp [*]

/-- A tap depends on the time, the counter's start, the parameters and the clock unit alone. -/
theorem tap_congr (s s' : State) (k : Nat) (h1 : s'.now = s.now) (h2 : s'.timer.t0 = s.timer.t0)
    (h3 : s'.cfg = s.cfg) (h4 : s'.clock = s.clock) : tap s' k = tap s k := by
  simp only [tap, tick, timerFrequency, h1, h2, h3, h4]

/-- What arming reports of its query: all of it or nothing, as the open answer has it (log 26). -/
theorem armingDiags_eq (c : Clock) : armingDiags c = if Config.armingReports then derivedDiags c .timer else [] := by
  unfold armingDiags
  cases Config.armingReports <;> simp

/-- What arming reports: nothing where the channel is disabled, else what the open answer leaves of its frequency query (log 26). -/
theorem arm_reports (c : Channel) (s : State) :
    Reports s (arm c s) (if (s.timer.chan c).en && Config.armingReports then derivedDiags s.clock .timer else []) := by
  unfold arm
  cases he : (s.timer.chan c).en
  · exact reports_nil rfl
  · simpa [armingDiags_eq] using
      reports_congr (reports_report (s.onTimer fun t => { t with alarm := armedAlarm c s }) (armingDiags s.clock)) (s' := s) rfl rfl

/-- Everything arming does to the timer (R317). -/
theorem arm_timer_eq (c : Channel) (s : State) :
    (arm c s).timer = { s.timer with
      alarm := (if (s.timer.chan c).en = true ∧ 0 < timerFrequency s then
        some (Alarm.mk (deadlineFor c (timerFrequency s) s) c) else none) } := by
  unfold arm armedAlarm
  by_cases h : (s.timer.chan c).en = true <;> by_cases h2 : timerFrequency s > 0 <;> simp [h, h2, cancelAlarm]

/-- What a compare write reports: its arming's report (log 26). -/
theorem writeCompare_reports (c : Channel) (v : Word) (s : State) :
    Reports s (writeCompare c v s) (if (s.timer.chan c).en && Config.armingReports then derivedDiags s.clock .timer else []) := by
  have h := arm_reports c (s.onTimer fun t => t.setChan c { t.chan c with word := v })
  cases c <;> exact reports_congr h rfl rfl

/-- What an ICR write reports: the report of the one arming it does (log 26). -/
theorem writeIcr_reports (v : Word) (s : State) :
    Reports s (writeIcr v s) (if (bit 0 v || bit 4 v) && Config.armingReports then derivedDiags s.clock .timer else []) := by
  unfold writeIcr
  dsimp only
  generalize hs1 : cancelAlarm (s.onTimer fun t =>
    { t with cmp0 := { t.cmp0 with en := bit 0 v, os := bit 2 v }, cmp1 := { t.cmp1 with en := bit 4 v, os := bit 6 v } }) = s1
  have h0 : s1.timer.cmp0.en = bit 0 v := by rw [← hs1]; rfl
  have h4 : s1.timer.cmp1.en = bit 4 v := by rw [← hs1]; rfl
  have hd : s1.diag = s.diag := by rw [← hs1]; rfl
  have hc : s1.clock = s.clock := by rw [← hs1]; rfl
  rw [h0, h4, ← hc]
  cases b0 : bit 0 v
  · cases b4 : bit 4 v
    · exact reports_nil hd
    · simpa [Timer.chan, h4, b4] using reports_congr (arm_reports .ch1 s1) hd.symm rfl
  · simpa [Timer.chan, h0, b0] using reports_congr (arm_reports .ch0 s1) hd.symm rfl

/-- The dispatch of a transmit item, in the terms of the statements (R368, R387). -/
theorem sendItem_dispatched (item : TxItem) (ans : Answer) (s : State) : Dispatched item ans s.uart s (sendItem item ans s) := by
  rcases sendItem_cases s item ans with ⟨h1, e⟩ | ⟨h1, h2, h3, e⟩ | ⟨h1, h2, h3, e⟩ | ⟨h1, h2, e⟩ <;> rw [e]
  · refine ⟨fun _ => ⟨rfl, rfl⟩, ?_, ?_⟩ <;> simp [h1]
  · refine ⟨?_, ?_, ?_⟩ <;> simp [h1, h2, h3]
  · refine ⟨?_, ?_, ?_⟩ <;> simp [h1, h2, h3]
  · refine ⟨by simp [h1], by simp [h2], fun _ _ => ⟨?_, ?_, ?_⟩⟩
    · cases ans <;> rfl
    · rintro rfl; rfl
    · rintro rfl; rfl

/-- The number of buffered bytes as a natural number. -/
theorem ringUsed_eq (u : Uart) : ringUsed u = (u.wr.val + 8192 - u.rd.val) % 8192 := by
  have h2 := u.rd.isLt
  unfold ringUsed; simp only [Fin.sub_def]
  omega

/-- The ring after one byte. -/
theorem ringByte_pushByte (b : Byte) (u : Uart) (j : Cursor) : ringByte (pushByte b u) j = if j = u.wr then b else ringByte u j := by
  simp only [ringByte, pushByte, Memory.read_write, Fin.ext_iff]

/-- Everything a burst does: the write cursor moves past the bytes that fit, they stand in the slots it passed, every other slot is as
before, and the rest is dropped (R389). -/
theorem pushBurst_spec (bytes : List Byte) (u : Uart) (n : Nat) (hn : n = min bytes.length (ringFree u)) :
   (pushBurst bytes u).1.wr = Fin.ofNat 8192 (u.wr.val + n) ∧ (pushBurst bytes u).2 = bytes.length - n ∧
   (∀ k, k < n → bytes[k]? = some (ringByte (pushBurst bytes u).1 (Fin.ofNat 8192 (u.wr.val + k)))) ∧
   (∀ j, (∀ k, k < n → j ≠ Fin.ofNat 8192 (u.wr.val + k)) → ringByte (pushBurst bytes u).1 j = ringByte u j) := by
  induction bytes generalizing u n with
  | nil =>
    simp at hn; subst hn; refine ⟨?_, rfl, by simp, by intros; rfl⟩
    simp [pushBurst]
  | cons b rest ih =>
    by_cases hf : ringFree u > 0
    · have hu := ringUsed_pushByte b u hf
      have hlt := ringUsed_lt (pushByte b u)
      have hfree : ringFree (pushByte b u) = ringFree u - 1 := by unfold ringFree; omega
      have hfl : ringFree u ≤ 8191 := by unfold ringFree; omega
      simp only [pushBurst, hf, if_true]
      obtain ⟨m, rfl⟩ : ∃ m, n = m + 1 := ⟨n - 1, by simp at hn; omega⟩
      have hwr : (pushByte b u).wr = Fin.ofNat 8192 (u.wr.val + 1) := by
        apply Fin.ext; simp [pushByte, Fin.add_def]
      have hval : ∀ k, Fin.ofNat 8192 ((pushByte b u).wr.val + k) = Fin.ofNat 8192 (u.wr.val + (k + 1)) := by
        intro k; rw [hwr]; apply Fin.ext; simp only [Fin.ofNat]; omega
      obtain ⟨h1, h2, h3, h4⟩ := ih (pushByte b u) m (by simp at hn; omega)
      simp only [hval] at h1 h3 h4
      refine ⟨h1, by rw [h2]; simp, ?_, ?_⟩
      · intro k hk
        cases k with
        | zero =>
          have := h4 (Fin.ofNat 8192 (u.wr.val + 0)) (by
            intro k hk e
            have := congrArg Fin.val e
            simp only [Fin.ofNat] at this
            have := u.wr.isLt
            simp at hn
            omega)
          rw [this, ringByte_pushByte]
          have : Fin.ofNat 8192 (u.wr.val + 0) = u.wr := by apply Fin.ext; simp
          rw [this]; simp
        | succ k => exact h3 k (by omega)
      · intro j hj
        rw [h4 j (fun k hk => hj (k+1) (by omega)), ringByte_pushByte, if_neg]
        have := hj 0 (by omega)
        intro e; apply this; rw [e]; apply Fin.ext; simp
    · simp only [pushBurst, hf, if_false]
      have : ringFree u = 0 := by omega
      have hn0 : n = 0 := by simp [this] at hn; exact hn
      subst hn0
      rw [pushBurst_full _ _ this]
      refine ⟨?_, rfl, by simp, by intros; rfl⟩
      apply Fin.ext; simp

end Sys2Proof.Machine
end

