-- ==== Sys2Proof/Machine/Pseudo.lean ====
section
/-! DEFINITION. The pseudo-operations of the textual syntax (R161) and what each expands to. -/

namespace Sys2Proof.Machine

/-- The low byte of a priority operand, `p & 0xFF`. -/
def lowByte (p : Word) : Word := p &&& 0xFF#32

/-- `irq.enable i, p` (R161). -/
def irqEnable (i : SourceIndex) (p : Word) : Instr := .wrIrSrc i .word 0 (lowByte p ||| 0x00000400#32)

/-- `irq.disable i, p` (R161). -/
def irqDisable (i : SourceIndex) (p : Word) : Instr := .wrIrSrc i .word 0 (lowByte p ||| 0x00000600#32)

/-- `irq.ack i, p` (R161, R410). -/
def irqAck (i : SourceIndex) (p : Word) : Instr := .wrIrSrc i .word 0 (lowByte p ||| 0x02000000#32)

/-- `irq.trigger i, p` (R161). -/
def irqTrigger (i : SourceIndex) (p : Word) : Instr := .wrIrSrc i .word 0 (lowByte p ||| 0x04000000#32)

/-- The channel's number. -/
def channelNumber : Channel → Nat
  | .ch0 => 0
  | .ch1 => 1

/-- `stm.enable c` (R161). -/
def stmEnable (c : Channel) : Instr := .wrStmIcr .word 0 (1#32 <<< (4 * channelNumber c))

/-- `stm.clear c` (R161). -/
def stmClear (c : Channel) : Instr := .wrStmIscr .word 0 (1#32 <<< (2 * channelNumber c))

/-- `stm.set c` (R161). -/
def stmSet (c : Channel) : Instr := .wrStmIscr .word 0 (2#32 <<< (2 * channelNumber c))

/-- `stm.rel c, k`, whose first operation is the read of TIM0 (R161). -/
def stmRelRead : Instr := .rdStmTim0 .word 0

/-- `stm.rel c, k`, whose second operation writes `(t + k) mod 2^32` for the `t` the first one returned (R161). -/
def stmRelWrite (c : Channel) (t k : Word) : Instr :=
  match c with
  | .ch0 => .wrStmCmp0 .word 0 (t + k)
  | .ch1 => .wrStmCmp1 .word 0 (t + k)

/-- `ccu.commit v` (R161). -/
def ccuCommit (v : Word) : Instr := .wrCcuCcucon0 .word 0 (v &&& ~~~0x40000000#32)

/-- `uart.putc b`, with the transport's answer (R161). -/
def uartPutc (b : Word) (ans : Answer) : Instr := .wrUartTxdata .word 0 (lowByte b) ans

/-- `uart.getc` (R161). -/
def uartGetc : Instr := .rdUartRxdata .word 0

/-- `uart.rxon` (R161). -/
def uartRxon : Instr := .wrUartRxfifocon .word 0 0x00000002#32

/-- `uart.flush` (R161). -/
def uartFlush : Instr := .wrUartRxfifocon .word 0 0x00000003#32

end Sys2Proof.Machine
end

