-- ==== Sys2Proof/Tests/Slice0.lean ====
section
/-! SUPPORT. The tests: refused terms and descriptors, every constructor's decoding from a descriptor written out from the layouts of
30_encoding.md, single steps with the results of 95_test_vectors.md, and for every statement with hypotheses a theorem that meets
them all together (`test_witness_<its name>`). -/

namespace Sys2Proof.Tests

open Sys2Proof.Machine

/-- The operands the decoding tests give beside every descriptor. -/
def operands : Operand := { Operand.zero with data := 0xC0DEF00D#32, ans := .wouldBlock, delta := 7, bytes := [0x61#8] }

/-- What the decoder reads from a descriptor with those operands. -/
def decodeWord (w : Nat) : Option Instr :=
  match decode { desc := BitVec.ofNat 32 w, args := operands } with
  | .ok i => some i
  | .error _ => none

/-- Why the decoder refuses a descriptor. -/
def refusal (w : Nat) : Option DecodeError :=
  match decode { desc := BitVec.ofNat 32 w, args := operands } with
  | .ok _ => none
  | .error e => some e

/-- The operation completed. -/
def completes : Outcome → Bool
  | .next _ => true
  | .fault _ => false
  | .refused _ => false

/-- A field of the state after an operation. -/
def after {α : Type} (f : State → α) : Outcome → Option α
  | .next t => some (f t)
  | .fault _ => none
  | .refused _ => none

/-- Why an operation was refused. -/
def refusedWith : Outcome → Option Refusal
  | .next _ => none
  | .fault _ => none
  | .refused r => some r

theorem exists_next {o : Outcome} (h : completes o = true) : ∃ t, o = .next t := by
  cases o with
  | next t => exact ⟨t, rfl⟩
  | fault f => cases h
  | refused r => cases h

theorem eq_refused {o : Outcome} {r : Refusal} (h : refusedWith o = some r) : o = .refused r := by
  cases o with
  | next t => cases h
  | fault f => cases h
  | refused q => cases h; rfl

/-- A source pending, enabled, with the priority number `p`. -/
def raised (p : BitVec 8) : Source := { pending := true, enabled := true, prio := p }

/-- The state right after power-on with the operation `i` as its input. -/
def given (i : Instr) : State := { State.reset with input := [{ stores := [], op := encode i }] }

/-- A router with two qualifying sources, 40 with the priority number 0x11 and 41 with 0x99, evaluated. -/
def twoRaised : State :=
  evaluate (State.onRouter (fun r => (r.setSource 41 (raised 0x99#8)).setSource 40 (raised 0x11#8)) State.reset)

/-- The same with LEVEL(40, 0) as its input. -/
def twoRaisedGiven : State := { twoRaised with input := [{ stores := [], op := encode (.evLevel 40 false) }] }

/-- An alarm of channel 0, enabled, due at 5000, at the time `now`. -/
def armedAt (now : Nat) : State :=
  { State.reset with
    now := now
    timer :=
      { State.reset.timer with
        cmp0 := { word := 100#32, en := true, ir := false, os := false }, alarm := some { deadline := 5000, ch := .ch0 } } }

/-- Both channels enabled, their compare values just behind the counter. -/
def behind : State :=
  let c : Compare := { word := 19#32, en := true, ir := false, os := false }
  { State.reset with now := 1000, timer := { State.reset.timer with cmp0 := c, cmp1 := c } }

/-- The flag RFO set. -/
def overrun : State := { State.reset with uart := { State.reset.uart with flags := 0x04000000#32 } }

/-- A retry armed for the byte 0x41. -/
def blocked : State :=
  { State.reset with uart := { State.reset.uart with txPend := some (.byte 0x41#8), retryArmed := true } }

/-- The bytes 0x61 and 0x62 in the receive ring, in the two slots before its end. -/
def twoBuffered : State :=
  { State.reset with uart := { State.reset.uart with ring := [(8190, 0x61#8), (8191, 0x62#8)], rd := 8190, wr := 0 } }

/-- A receive ring with room for one byte. -/
def roomForOne : State := { State.reset with uart := { State.reset.uart with wr := 8190 } }

/-- The parameters without a transport. -/
def silent : Params := { Params.reference with transportPresent := false }

/-- The parameters with the block-transfer pair at 0x54 and 0xE4. -/
def withBlock : Params := { Params.reference with blkPresent := true, blkAddrOff := 0x54, blkLenOff := 0xE4 }

/-- The parameters with a router window one word larger than its source words. -/
def wideRouter : Params := { Params.reference with irWindow := 0x404 }

/-- Each ill-formed term, one per check, is refused. -/
theorem test_wellFormed_refuses :
    ([.rdIrUndeclared .byte 0x3FF, .wrIrUndeclared .word 0x000 0#32, .rdCcuUndeclared .byte 0x17, .wrCcuUndeclared .word 0x34 0#32,
      .rdStmUndeclared .half 0xFE, .wrStmUndeclared .word 0x00 0#32, .rdUartUndeclared .byte 0x49, .wrUartUndeclared .word 0xFC 0#32 .accepted]
        : List Instr).map Instr.wellFormed = [false, false, false, false, false, false, false, false] := by
  decide

/-- Their neighbours that hold no declared register are not. -/
theorem test_wellFormed_accepts :
    ([.rdIrUndeclared .byte 0x400, .wrIrUndeclared .word 0xFFC 0#32, .rdCcuUndeclared .byte 0x13, .wrCcuUndeclared .word 0x38 0#32,
      .rdStmUndeclared .half 0xE6, .wrStmUndeclared .word 0x04 0#32, .rdUartUndeclared .byte 0x57, .wrUartUndeclared .word 0xE4 0#32 .accepted]
        : List Instr).map Instr.wellFormed = [true, true, true, true, true, true, true, true] := by
  decide

/-- Descriptors of R111 written out bit by bit, bit 31, W, SZ, the reserved bits 27:26, U, the reserved bits 23:12, OFF[11:2], OFF[1:0], with the
offsets of R120: they decode to these operations. -/
theorem test_decode_router :
    [0b0_0_00_00_00_000000000000_0010100101_00,
      0b0_1_00_00_00_000000000000_0010100101_01].map decodeWord =
    [.rdIrSrc 0xA5 .byte 0,
      .wrIrSrc 0xA5 .byte 1 0xC0DEF00D#32].map some := by
  decide

/-- Descriptors of R111 written out bit by bit, bit 31, W, SZ, the reserved bits 27:26, U, the reserved bits 23:12, OFF[11:2], OFF[1:0], with the
offsets of R130: they decode to these operations. -/
theorem test_decode_clock :
    [0b0_0_00_00_01_000000000000_0000000101_10,
      0b0_1_00_00_01_000000000000_0000000101_11,
      0b0_0_01_00_01_000000000000_0000000110_00,
      0b0_1_01_00_01_000000000000_0000000110_10,
      0b0_0_10_00_01_000000000000_0000000111_00,
      0b0_1_00_00_01_000000000000_0000000111_00,
      0b0_0_00_00_01_000000000000_0000001100_01,
      0b0_1_00_00_01_000000000000_0000001100_10,
      0b0_0_00_00_01_000000000000_0000001101_11,
      0b0_1_01_00_01_000000000000_0000001101_00].map decodeWord =
    [.rdCcuPllstat .byte 2,
      .wrCcuPllstat .byte 3 0xC0DEF00D#32,
      .rdCcuPllcon0 .half 0,
      .wrCcuPllcon0 .half 2 0xC0DEF00D#32,
      .rdCcuPllcon1 .word 0,
      .wrCcuPllcon1 .byte 0 0xC0DEF00D#32,
      .rdCcuCcucon0 .byte 1,
      .wrCcuCcucon0 .byte 2 0xC0DEF00D#32,
      .rdCcuCcucon1 .byte 3,
      .wrCcuCcucon1 .half 0 0xC0DEF00D#32].map some := by
  decide

/-- Descriptors of R111 written out bit by bit, bit 31, W, SZ, the reserved bits 27:26, U, the reserved bits 23:12, OFF[11:2], OFF[1:0], with the
offsets of R140: they decode to these operations. -/
theorem test_decode_timer_reads :
    [0b0_0_01_00_10_000000000000_0000000000_10,
      0b0_0_00_00_10_000000000000_0000000010_00,
      0b0_0_00_00_10_000000000000_0000000100_10,
      0b0_0_01_00_10_000000000000_0000000101_00,
      0b0_0_10_00_10_000000000000_0000000110_00,
      0b0_0_00_00_10_000000000000_0000000111_01,
      0b0_0_00_00_10_000000000000_0000001000_11,
      0b0_0_01_00_10_000000000000_0000001001_10,
      0b0_0_00_00_10_000000000000_0000001010_00,
      0b0_0_00_00_10_000000000000_0000001011_10,
      0b0_0_01_00_10_000000000000_0000001100_00,
      0b0_0_10_00_10_000000000000_0000001101_00,
      0b0_0_00_00_10_000000000000_0000001110_01,
      0b0_0_00_00_10_000000000000_0000001111_11,
      0b0_0_01_00_10_000000000000_0000010000_10,
      0b0_0_00_00_10_000000000000_0000010100_00,
      0b0_0_00_00_10_000000000000_0000010101_10,
      0b0_0_01_00_10_000000000000_0000111010_00,
      0b0_0_10_00_10_000000000000_0000111011_00,
      0b0_0_00_00_10_000000000000_0000111100_01,
      0b0_0_00_00_10_000000000000_0000111101_11,
      0b0_0_01_00_10_000000000000_0000111110_10,
      0b0_0_00_00_10_000000000000_0000111111_00].map decodeWord =
    [.rdStmClc .half 2,
      .rdStmId .byte 0,
      .rdStmTim0 .byte 2,
      .rdStmTim1 .half 0,
      .rdStmTim2 .word 0,
      .rdStmTim3 .byte 1,
      .rdStmTim4 .byte 3,
      .rdStmTim5 .half 2,
      .rdStmTim6 .byte 0,
      .rdStmCap .byte 2,
      .rdStmCmp0 .half 0,
      .rdStmCmp1 .word 0,
      .rdStmCmcon .byte 1,
      .rdStmIcr .byte 3,
      .rdStmIscr .half 2,
      .rdStmTim0sv .byte 0,
      .rdStmCapsv .byte 2,
      .rdStmOcs .half 0,
      .rdStmKrstclr .word 0,
      .rdStmKrst1 .byte 1,
      .rdStmKrst0 .byte 3,
      .rdStmAccen1 .half 2,
      .rdStmAccen0 .byte 0].map some := by
  decide

/-- Descriptors of R111 written out bit by bit, bit 31, W, SZ, the reserved bits 27:26, U, the reserved bits 23:12, OFF[11:2], OFF[1:0], with the
offsets of R140: they decode to these operations. -/
theorem test_decode_timer_writes :
    [0b0_1_10_00_10_000000000000_0000000000_00,
      0b0_1_00_00_10_000000000000_0000000010_01,
      0b0_1_00_00_10_000000000000_0000000100_11,
      0b0_1_01_00_10_000000000000_0000000101_10,
      0b0_1_00_00_10_000000000000_0000000110_00,
      0b0_1_00_00_10_000000000000_0000000111_10,
      0b0_1_01_00_10_000000000000_0000001000_00,
      0b0_1_10_00_10_000000000000_0000001001_00,
      0b0_1_00_00_10_000000000000_0000001010_01,
      0b0_1_00_00_10_000000000000_0000001011_11,
      0b0_1_01_00_10_000000000000_0000001100_10,
      0b0_1_00_00_10_000000000000_0000001101_00,
      0b0_1_00_00_10_000000000000_0000001110_10,
      0b0_1_01_00_10_000000000000_0000001111_00,
      0b0_1_10_00_10_000000000000_0000010000_00,
      0b0_1_00_00_10_000000000000_0000010100_01,
      0b0_1_00_00_10_000000000000_0000010101_11,
      0b0_1_01_00_10_000000000000_0000111010_10,
      0b0_1_00_00_10_000000000000_0000111011_00,
      0b0_1_00_00_10_000000000000_0000111100_10,
      0b0_1_01_00_10_000000000000_0000111101_00,
      0b0_1_10_00_10_000000000000_0000111110_00,
      0b0_1_00_00_10_000000000000_0000111111_01].map decodeWord =
    [.wrStmClc .word 0 0xC0DEF00D#32,
      .wrStmId .byte 1 0xC0DEF00D#32,
      .wrStmTim0 .byte 3 0xC0DEF00D#32,
      .wrStmTim1 .half 2 0xC0DEF00D#32,
      .wrStmTim2 .byte 0 0xC0DEF00D#32,
      .wrStmTim3 .byte 2 0xC0DEF00D#32,
      .wrStmTim4 .half 0 0xC0DEF00D#32,
      .wrStmTim5 .word 0 0xC0DEF00D#32,
      .wrStmTim6 .byte 1 0xC0DEF00D#32,
      .wrStmCap .byte 3 0xC0DEF00D#32,
      .wrStmCmp0 .half 2 0xC0DEF00D#32,
      .wrStmCmp1 .byte 0 0xC0DEF00D#32,
      .wrStmCmcon .byte 2 0xC0DEF00D#32,
      .wrStmIcr .half 0 0xC0DEF00D#32,
      .wrStmIscr .word 0 0xC0DEF00D#32,
      .wrStmTim0sv .byte 1 0xC0DEF00D#32,
      .wrStmCapsv .byte 3 0xC0DEF00D#32,
      .wrStmOcs .half 2 0xC0DEF00D#32,
      .wrStmKrstclr .byte 0 0xC0DEF00D#32,
      .wrStmKrst1 .byte 2 0xC0DEF00D#32,
      .wrStmKrst0 .half 0 0xC0DEF00D#32,
      .wrStmAccen1 .word 0 0xC0DEF00D#32,
      .wrStmAccen0 .byte 1 0xC0DEF00D#32].map some := by
  decide

/-- Descriptors of R111 written out bit by bit, bit 31, W, SZ, the reserved bits 27:26, U, the reserved bits 23:12, OFF[11:2], OFF[1:0], with the
offsets of R150: they decode to these operations. -/
theorem test_decode_uart_reads :
    [0b0_0_00_00_11_000000000000_0000000000_10,
      0b0_0_01_00_11_000000000000_0000000001_00,
      0b0_0_10_00_11_000000000000_0000000010_00,
      0b0_0_00_00_11_000000000000_0000000011_01,
      0b0_0_00_00_11_000000000000_0000000100_11,
      0b0_0_01_00_11_000000000000_0000000101_10,
      0b0_0_00_00_11_000000000000_0000000110_00,
      0b0_0_00_00_11_000000000000_0000000111_10,
      0b0_0_01_00_11_000000000000_0000001000_00,
      0b0_0_10_00_11_000000000000_0000001001_00,
      0b0_0_00_00_11_000000000000_0000001010_01,
      0b0_0_00_00_11_000000000000_0000001011_11,
      0b0_0_01_00_11_000000000000_0000001100_10,
      0b0_0_00_00_11_000000000000_0000001101_00,
      0b0_0_00_00_11_000000000000_0000001110_10,
      0b0_0_01_00_11_000000000000_0000001111_00,
      0b0_0_10_00_11_000000000000_0000010000_00,
      0b0_0_00_00_11_000000000000_0000010001_01,
      0b0_0_00_00_11_000000000000_0000010010_11,
      0b0_0_01_00_11_000000000000_0000010011_10,
      0b0_0_00_00_11_000000000000_0000010100_00,
      0b0_0_00_00_11_000000000000_0000111010_10,
      0b0_0_01_00_11_000000000000_0000111011_00,
      0b0_0_10_00_11_000000000000_0000111100_00,
      0b0_0_00_00_11_000000000000_0000111101_01,
      0b0_0_00_00_11_000000000000_0000111110_11,
      0b0_0_01_00_11_000000000000_0000111111_10].map decodeWord =
    [.rdUartClc .byte 2,
      .rdUartIocr .half 0,
      .rdUartId .word 0,
      .rdUartTxfifocon .byte 1,
      .rdUartRxfifocon .byte 3,
      .rdUartBitcon .half 2,
      .rdUartFramecon .byte 0,
      .rdUartDatcon .byte 2,
      .rdUartBrg .half 0,
      .rdUartBrd .word 0,
      .rdUartLincon .byte 1,
      .rdUartLinbtimer .byte 3,
      .rdUartLinhtimer .half 2,
      .rdUartFlags .byte 0,
      .rdUartFlagsset .byte 2,
      .rdUartFlagsclear .half 0,
      .rdUartFlagsenable .word 0,
      .rdUartTxdata .byte 1,
      .rdUartRxdata .byte 3,
      .rdUartCsr .half 2,
      .rdUartRxdatad .byte 0,
      .rdUartOcs .byte 2,
      .rdUartKrstclr .half 0,
      .rdUartKrst1 .word 0,
      .rdUartKrst0 .byte 1,
      .rdUartAccen1 .byte 3,
      .rdUartAccen0 .half 2].map some := by
  decide

/-- Descriptors of R111 written out bit by bit, bit 31, W, SZ, the reserved bits 27:26, U, the reserved bits 23:12, OFF[11:2], OFF[1:0], with the
offsets of R150: they decode to these operations. -/
theorem test_decode_uart_writes :
    [0b0_1_00_00_11_000000000000_0000000000_11,
      0b0_1_01_00_11_000000000000_0000000001_10,
      0b0_1_00_00_11_000000000000_0000000010_00,
      0b0_1_00_00_11_000000000000_0000000011_10,
      0b0_1_01_00_11_000000000000_0000000100_00,
      0b0_1_10_00_11_000000000000_0000000101_00,
      0b0_1_00_00_11_000000000000_0000000110_01,
      0b0_1_00_00_11_000000000000_0000000111_11,
      0b0_1_01_00_11_000000000000_0000001000_10,
      0b0_1_00_00_11_000000000000_0000001001_00,
      0b0_1_00_00_11_000000000000_0000001010_10,
      0b0_1_01_00_11_000000000000_0000001011_00,
      0b0_1_10_00_11_000000000000_0000001100_00,
      0b0_1_00_00_11_000000000000_0000001101_01,
      0b0_1_00_00_11_000000000000_0000001110_11,
      0b0_1_01_00_11_000000000000_0000001111_10,
      0b0_1_00_00_11_000000000000_0000010000_00,
      0b0_1_00_00_11_000000000000_0000010001_10,
      0b0_1_01_00_11_000000000000_0000010010_00,
      0b0_1_10_00_11_000000000000_0000010011_00,
      0b0_1_00_00_11_000000000000_0000010100_01,
      0b0_1_00_00_11_000000000000_0000111010_11,
      0b0_1_01_00_11_000000000000_0000111011_10,
      0b0_1_00_00_11_000000000000_0000111100_00,
      0b0_1_00_00_11_000000000000_0000111101_10,
      0b0_1_01_00_11_000000000000_0000111110_00,
      0b0_1_10_00_11_000000000000_0000111111_00].map decodeWord =
    [.wrUartClc .byte 3 0xC0DEF00D#32,
      .wrUartIocr .half 2 0xC0DEF00D#32,
      .wrUartId .byte 0 0xC0DEF00D#32,
      .wrUartTxfifocon .byte 2 0xC0DEF00D#32,
      .wrUartRxfifocon .half 0 0xC0DEF00D#32,
      .wrUartBitcon .word 0 0xC0DEF00D#32,
      .wrUartFramecon .byte 1 0xC0DEF00D#32,
      .wrUartDatcon .byte 3 0xC0DEF00D#32,
      .wrUartBrg .half 2 0xC0DEF00D#32,
      .wrUartBrd .byte 0 0xC0DEF00D#32,
      .wrUartLincon .byte 2 0xC0DEF00D#32,
      .wrUartLinbtimer .half 0 0xC0DEF00D#32,
      .wrUartLinhtimer .word 0 0xC0DEF00D#32,
      .wrUartFlags .byte 1 0xC0DEF00D#32,
      .wrUartFlagsset .byte 3 0xC0DEF00D#32,
      .wrUartFlagsclear .half 2 0xC0DEF00D#32,
      .wrUartFlagsenable .byte 0 0xC0DEF00D#32,
      .wrUartTxdata .byte 2 0xC0DEF00D#32 .wouldBlock,
      .wrUartRxdata .half 0 0xC0DEF00D#32,
      .wrUartCsr .word 0 0xC0DEF00D#32,
      .wrUartRxdatad .byte 1 0xC0DEF00D#32,
      .wrUartOcs .byte 3 0xC0DEF00D#32,
      .wrUartKrstclr .half 2 0xC0DEF00D#32,
      .wrUartKrst1 .byte 0 0xC0DEF00D#32,
      .wrUartKrst0 .byte 2 0xC0DEF00D#32,
      .wrUartAccen1 .half 0 0xC0DEF00D#32,
      .wrUartAccen0 .word 0 0xC0DEF00D#32].map some := by
  decide

/-- Descriptors of R111 written out bit by bit, bit 31, W, SZ, the reserved bits 27:26, U, the reserved bits 23:12, OFF[11:2], OFF[1:0], with the
offsets of R84, R120, R130, R140, R150: they decode to these operations. -/
theorem test_decode_undeclared :
    [0b0_0_00_00_00_000000000000_0100000000_11,
      0b0_1_00_00_00_000000000000_0100000000_11,
      0b0_0_01_00_01_000000000000_0000000000_10,
      0b0_1_01_00_01_000000000000_0000000000_10,
      0b0_0_10_00_10_000000000000_0000010001_00,
      0b0_1_10_00_10_000000000000_0000010001_00,
      0b0_0_00_00_11_000000000000_0000111001_11,
      0b0_1_00_00_11_000000000000_0000111001_11].map decodeWord =
    [.rdIrUndeclared .byte 0x403,
      .wrIrUndeclared .byte 0x403 0xC0DEF00D#32,
      .rdCcuUndeclared .half 0x2,
      .wrCcuUndeclared .half 0x2 0xC0DEF00D#32,
      .rdStmUndeclared .word 0x44,
      .wrStmUndeclared .word 0x44 0xC0DEF00D#32,
      .rdUartUndeclared .byte 0xE7,
      .wrUartUndeclared .byte 0xE7 0xC0DEF00D#32 .wouldBlock].map some := by
  decide

/-- Events of R112 written out bit by bit: bit 31, EV, the payload. -/
theorem test_decode_events :
    [0b1_0000001_0000000000000000000000_11,
      0b1_0000010_000000000000000000000000,
      0b1_0000011_000000000000000000000000,
      0b1_0000100_000000000000000000000000,
      0b1_0000101_000000000000000000000000,
      0b1_0000110_000000000000000000000000,
      0b1_0000111_00000000000000000000000_1,
      0b1_0001000_000000000000000_1_00101001,
      0b1_0001001_000000000000000000000000].map decodeWord =
    [.evReset .uart, .evResetAll, .evTime 7, .evAlarm, .evRx [0x61#8], .evWritable .wouldBlock, .evLock true, .evLevel 41 true,
      .evSnapshot].map some := by
  decide

/-- RESTORE carries its blob (R112). -/
theorem test_decode_restore :
    decode { desc := 0x8A000000#32, args := { Operand.zero with blob := { Block.powerOn with now := 9000 } } } =
      .ok (.evRestore { Block.powerOn with now := 9000 }) := by
  rfl

/-- V-A7, V-A8, reserved bits 27:26, an event of no row, and payload bits outside the fields of RESET, ALARM, LOCK and LEVEL (R113). -/
theorem test_refused_descriptors :
    [0x33000034, 0x23100034, 0x04000000, 0x08000000, 0x80000000, 0x8B000000, 0x81000004, 0x84000001, 0x87000002, 0x88000200].map refusal =
      [some .reservedSize, some .reservedBits, some .reservedBits, some .reservedBits, some .unknownEvent, some .unknownEvent,
        some .payloadBits, some .payloadBits, some .payloadBits, some .payloadBits] := by
  decide

/-- V-A5, V-A6, V-A9: not a multiple of the size, past the window. -/
theorem test_refused_accesses :
    refusedWith (exec (.rdUartBrg .half 1) State.reset) = some .misaligned ∧
    refusedWith (exec (.rdCcuUndeclared .word 0x102) State.reset) = some .misaligned ∧
    refusedWith (exec (.rdCcuUndeclared .byte 0x100) State.reset) = some .outsideWindow := by
  decide

/-- V-A2, V-A3: a byte and a halfword merged into BRG = 0x11223344. -/
theorem test_byte_lane_write :
    let s : State := { State.reset with uart := { State.reset.uart with brg := 0x11223344#32 } }
    after (fun t => t.uart.brg) (exec (.wrUartBrg .byte 1 0xAB#32) s) = some 0x1122AB44#32 ∧
    after (fun t => t.uart.brg) (exec (.wrUartBrg .half 2 0xBEEF#32) s) = some 0xBEEF3344#32 := by
  decide

/-- V-A4: lane 3 of BRG = 0x11223344. -/
theorem test_byte_lane_read :
    after (fun t => t.result) (exec (.rdUartBrg .byte 3) { State.reset with uart := { State.reset.uart with brg := 0x11223344#32 } }) =
    some (.data 0x00000011#32) := by
  decide

/-- V-A10: 0 and a report. -/
theorem test_undeclared_read :
    after (fun t => (t.result, t.diag)) (exec (.rdUartUndeclared .word 0x54) State.reset) =
    some (.data 0#32, [[.unknownRegister .uart 0x54 .read]]) := by
  decide

/-- V-IR4: CLRR then SETR, enabled, priority 0x55. -/
theorem test_source_write_trigger :
    after (fun t => (t.router.source 9, t.router.line, t.router.cpuPrio)) (exec (.wrIrSrc 9 .word 0 0x06000455#32) State.reset) =
    some (raised 0x55#8, true, 0x55#8) := by
  decide

/-- V-IR9, V-IR10: RESET_INDEX qualifies while disabled, its neighbour does not. -/
theorem test_source_write_reset_index :
    after (fun t => (t.router.line, t.router.cpuPrio)) (exec (.wrIrSrc 255 .word 0 0x0400007F#32) State.reset) = some (true, 0x7F#8) ∧
    after (fun t => (t.router.line, t.router.cpuPrio)) (exec (.wrIrSrc 254 .word 0 0x0400007F#32) State.reset) = some (false, 0x00#8) := by
  decide +kernel

/-- V-IR18: SRPN 0x42, enabled, pending. -/
theorem test_source_read :
    after (fun t => t.result)
      (exec (.rdIrSrc 5 .word 0) (State.onRouter (fun r => r.setSource 5 (raised 0x42#8)) State.reset)) = some (.data 0x01000442#32) := by
  decide

/-- W1 step 5: the lower index gives way to the other one. -/
theorem test_level_lowers :
    after (fun t => (t.router.line, t.router.cpuPrio)) (exec (.evLevel 40 false) twoRaised) = some (true, 0x99#8) := by
  decide

/-- V-C1. -/
theorem test_pllstat_read :
    after (fun t => t.result) (exec (.rdCcuPllstat .word 0) State.reset) = some (.data 0x00000035#32) := by
  decide

/-- V-C6 and V-C4: CLRFINDIS then SETFINDIS, the mode reported. -/
theorem test_pllcon0_write_freerun :
    after (fun t => (t.clock.findis, t.clock.pllcon0, t.diag)) (exec (.wrCcuPllcon0 .word 0 0x00000030#32) State.reset) =
    some (true, 0#32, [[.unimplementedClockMode]]) := by
  decide

/-- V-C15: N = 128 with the first input at 100 MHz. -/
theorem test_pllcon0_write_normal :
    after (fun t => (pllFrequency t.cfg t.clock, t.diag))
      (exec (.wrCcuPllcon0 .word 0 0x0000FE00#32) { State.reset with clock := { State.reset.clock with ccucon1 := 0x01000100#32 } }) =
    some (12800000000, []) := by
  decide

/-- V-C10: the latch is set and the dividers wait. -/
theorem test_ccucon1_write :
    after (fun t => (ccucon0Read t.clock, t.clock.est.timer)) (exec (.wrCcuCcucon1 .word 0 0x11000200#32) State.reset) =
    some (0x40010000#32, 1#4) := by
  decide

/-- V-C12: the commit reports a reserved divider. -/
theorem test_ccucon0_commit :
    after (fun t => (t.clock.est.timer, derivedClock t.cfg t.clock .timer, t.diag))
      (exec (.wrCcuCcucon0 .word 0 0x00010000#32) { State.reset with clock := { State.reset.clock with ccucon1 := 0x11000700#32 } }) =
    some (7#4, 2857142, [[.suspiciousDivider .timer 7#4]]) := by
  decide

/-- V-A12: a byte write carries the latch as bit 30 and commits nothing. -/
theorem test_narrow_ccucon0_write :
    after (fun t => (t.clock.est.timer, t.clock.updPending)) (exec (.wrCcuCcucon0 .byte 0 0#32)
      { State.reset with clock := { State.reset.clock with ccucon1 := 0x11000200#32, updPending := true } }) = some (1#4, true) := by
  decide

/-- V-T2: the tick 2^32 + 5. -/
theorem test_tim0_read :
    after (fun t => (t.result, t.timer.cap)) (exec (.rdStmTim0 .word 0) { State.reset with now := 214748365050 }) =
    some (.data 5#32, 1#32) := by
  decide

/-- V-T3, V-T4, V-T5. -/
theorem test_tim1_tim5_tim6_reads :
    after (fun t => t.result) (exec (.rdStmTim1 .word 0) { State.reset with now := 214748365050 }) = some (.data 0x10000000#32) ∧
    after (fun t => t.result) (exec (.rdStmTim5 .word 0) { State.reset with now := 214748365050 }) = some (.data 0x00001000#32) ∧
    after (fun t => (t.result, t.timer.cap)) (exec (.rdStmTim6 .word 0) { State.reset with now := 214748365050 }) = some (.data 1#32, 0#32) := by
  decide

/-- V-T6. -/
theorem test_tim0sv_read :
    after (fun t => (t.result, t.timer.capsv, t.timer.cap)) (exec (.rdStmTim0sv .word 0) { State.reset with now := 214748365050 }) =
    some (.data 5#32, 1#32, 0#32) := by
  decide

/-- V-T10: a compare value just behind the counter matches a wrap later. -/
theorem test_cmp0_write_wraps :
    after (fun t => t.timer.alarm) (exec (.wrStmCmp0 .word 0 19#32) (armedAt 1000)) = some (some { deadline := 214748365750, ch := .ch0 }) := by
  decide

/-- V-T14: a disabled channel only cancels. -/
theorem test_cmp1_write_cancels :
    after (fun t => t.timer.alarm) (exec (.wrStmCmp1 .word 0 100#32) (armedAt 1000)) = some none := by
  decide

/-- R317, R232: the domain stands still, so the enable is set and no alarm is armed (what is reported is open); a tap read reports. -/
theorem test_icr_write_freerunning :
    let s : State := { State.reset with clock := { State.reset.clock with pllcon0 := 0#32, findis := true } }
    after (fun t => (t.timer.cmp0.en, t.timer.alarm)) (exec (.wrStmIcr .word 0 1#32) s) = some (true, none) ∧
    after (fun t => t.diag) (exec (.rdStmTim0 .word 0) s) = some [[.unimplementedClockMode]] := by
  decide

/-- V-T12: both enabled, channel 0 is armed. -/
theorem test_icr_write :
    after (fun t => t.timer.alarm) (exec (.wrStmIcr .word 0 0x11#32)
      { State.reset with timer := { State.reset.timer with
          cmp0 := { word := 100#32, en := false, ir := false, os := false }
          cmp1 := { word := 40#32, en := false, ir := false, os := false } } }) = some (some { deadline := 5000, ch := .ch0 }) := by
  decide

/-- V-T18: clear then set, sent to source 10. -/
theorem test_iscr_write :
    after (fun t => (t.timer.cmp0.ir, (t.router.source 10).pending)) (exec (.wrStmIscr .word 0 3#32) State.reset) = some (true, true) := by
  decide +kernel

/-- V-T16, V-T15: at its deadline, not before. -/
theorem test_alarm_fires :
    after (fun t => (t.timer.cmp0.ir, t.timer.alarm, icrRead t.timer)) (exec .evAlarm (armedAt 5000)) = some (true, none, 3#32) ∧
    refusedWith (exec .evAlarm (armedAt 4999)) = some .alarmNotDue := by
  decide

/-- V-U2, V-U26: the byte, and the byte 0 of a write to lane 1. -/
theorem test_txdata_write :
    after (fun t => (t.emitted, flagsRead t.uart)) (exec (.wrUartTxdata .word 0 0x41#32 .accepted) State.reset) =
      some ([.write [0x41#8]], 0x80020000#32) ∧
    after (fun t => t.emitted) (exec (.wrUartTxdata .byte 1 0x41#32 .accepted) State.reset) = some [.write [0x00#8]] := by
  decide

/-- V-U4: the overwrite policy. -/
theorem test_txdata_write_busy :
    after (fun t => (t.emitted, t.uart.txPend)) (exec (.wrUartTxdata .word 0 0x42#32 .accepted) blocked) =
    some ([], some (.byte 0x42#8)) := by
  decide

/-- V-U7, V-U8: the retry blocked again, and no retry to take. -/
theorem test_writable :
    after (fun t => (t.emitted, t.uart.txPend, t.uart.retryArmed)) (exec (.evWritable .wouldBlock) blocked) =
      some ([.write [0x41#8]], some (.byte 0x41#8), true) ∧
    refusedWith (exec (.evWritable .accepted) State.reset) = some .noRetryPending := by
  decide

/-- V-U12, and the cursor wraps at the end of the ring. -/
theorem test_rxdata_read :
    after (fun t => (t.result, t.uart.rd, flagsRead t.uart)) (exec (.rdUartRxdata .word 0) twoBuffered) =
    some (.data 0x61#32, 8191, 0x90000000#32) := by
  decide

/-- V-U13: the stale slot, and the cursor stays. -/
theorem test_rxdata_read_empty :
    after (fun t => (t.result, t.uart.rd)) (exec (.rdUartRxdata .word 0) roomForOne) = some (.data 0#32, 1) := by
  decide

/-- V-U17 with room for one byte: the first is kept, the others are dropped and reported. -/
theorem test_rx_overflow :
    after (fun t => (t.uart.ring, t.uart.wr, t.diag)) (exec (.evRx [0x01#8, 0x02#8, 0x03#8]) roomForOne) =
    some ([(8190, 0x01#8)], 8191, [[.receiveOverflow 2]]) := by
  decide

/-- V-U20. -/
theorem test_rxfifocon_flush :
    after (fun t => (t.uart.rd, t.uart.rxfifocon, flagsRead t.uart, t.emitted, canReceive t.uart)) (exec (.wrUartRxfifocon .word 0 3#32)
      { State.reset with uart := { State.reset.uart with wr := 3, flags := 0x0C000000#32 } }) =
    some (3, 2#32, 0x80000000#32, [.acceptInput], true) := by
  decide

/-- V-U22: RFL, TFL and bit 4 are not stored. -/
theorem test_flagsset_write :
    after (fun t => flagsRead t.uart) (exec (.wrUartFlagsset .word 0 0x90000010#32) State.reset) = some 0x80000000#32 := by
  decide

/-- V-U23. -/
theorem test_flagsclear_write :
    after (fun t => flagsRead t.uart) (exec (.wrUartFlagsclear .word 0 0x00020000#32)
      { State.reset with uart := { State.reset.uart with flags := 0x00020000#32 } }) = some 0x80000000#32 := by
  decide

/-- V-U24: TFL is always 1, so enabling it raises source 21. -/
theorem test_flagsenable_write :
    after (fun t => (t.router.source 21).pending) (exec (.wrUartFlagsenable .word 0 0x80000000#32) State.reset) = some true := by
  decide +kernel

/-- V-U25. -/
theorem test_txfifocon_write :
    after (fun t => t.uart.txfifocon) (exec (.wrUartTxfifocon .word 0 0x43#32) State.reset) = some 0x42#32 := by
  decide

/-- V-C18: the lock input keeps its value. -/
theorem test_reset_clock :
    after (fun t => (t.clock.pllLocked, t.clock.pllcon0)) (exec (.evReset .ccu)
      { State.reset with clock := { State.reset.clock with pllcon0 := 0x200#32, pllLocked := false } }) = some (false, 1#32) := by
  decide

/-- V-E2. -/
theorem test_reset_timer :
    after (fun t => (t.timer.cmp0.ir, t.timer.t0, (t.router.source 10).pending)) (exec (.evReset .stm)
      (State.onRouter (fun r => r.setSource 10 (raised 0#8))
        { armedAt 1000 with timer := { (armedAt 1000).timer with cmp0 := { word := 0#32, en := true, ir := true, os := false } } })) =
    some (false, 1000, false) := by
  decide +kernel

/-- V-E10: time rewinds with the blob. -/
theorem test_restore_rewinds :
    after (fun t => t.now) (exec (.evRestore Block.powerOn) { State.reset with now := 9000 }) = some 0 := by
  decide

/-- R393: the block goes out as the bytes of guest memory from the address on. -/
theorem test_block_write :
    after (fun t => (t.emitted, t.uart.blkLen)) (exec (.wrUartUndeclared .word 0xE4 2#32 .accepted)
      { State.init withBlock with
        uart := { (State.init withBlock).uart with blkAddr := 0x1000#32 }, guest := [(0x1001, 0x7A#8)] }) =
    some ([.write [0x00#8, 0x7A#8]], 2#32) := by
  decide

/-- A step: the CPU store before the operation is done, then the operation runs (log 12). -/
theorem test_step_takes_the_stores_first :
    after (fun t => (Memory.read t.guest 5, t.result, t.input)) (step
      { State.reset with input := [{ stores := [(5, 0x7A#8)], op := encode (.rdCcuPllcon0 .word 0) }] }) =
    some (0x7A#8, .data 1#32, []) := by
  decide

/-- The interface: a table word is decoded, and the step after it is placed runs it. -/
theorem test_step_withFetchWord :
    decodeTableWord 32 0x21000018 = some (.rdCcuPllcon0 .word 0) ∧
    after (fun t => t.result) (step (State.reset.withFetchWord 32 0x21000018)) = some (.data 1#32) ∧
    refusedWith (step State.reset) = some .inputExhausted := by
  decide

/-- Well-formed operations at the ends of the undeclared ranges. -/
theorem test_witness_DecodeReadsBackEveryEncodedOperation :
    (Instr.wrIrUndeclared .word 0xFFC 1#32).wellFormed = true ∧ (Instr.rdCcuUndeclared .byte 0x38).wellFormed = true :=
  by decide

/-- A descriptor the decoder accepts. -/
theorem test_witness_DecodedOperationsEncodeBackToTheirDescriptor :
    decode { desc := 0x21000014#32, args := Operand.zero } = .ok (.rdCcuPllstat .word 0) :=
  by decide

/-- A refused descriptor as the next operation, and the four owned sources. -/
theorem test_witness_RefusedDescriptorsAreThoseTheSpecLists :
    (∃ (s : State) (e : Entry) (rest : List Entry), s.input = e :: rest ∧ ∀ i, decode e.op ≠ .ok i) ∧
    (State.reset.cfg.timerSrc = 10 ∧ State.reset.cfg.uartRxSrc = 20 ∧ State.reset.cfg.uartTxSrc = 21 ∧ State.reset.cfg.uartErrSrc = 22) :=
  ⟨⟨putFirst (Op.ofNumber 0x33000034) State.reset, _, _, rfl, fun i h => by
    have e : decode (Op.ofNumber 0x33000034) = .error .reservedSize := by decide
    rw [e] at h
    cases h⟩, by decide⟩

/-- An operation that decodes, with an operation after it. -/
theorem test_witness_StepRunsTheDecodedOperation :
    ∃ e rest, (putFirst (Op.ofNumber 0x21000014) (given .evAlarm)).input = e :: rest ∧ decode e.op = .ok (.rdCcuPllstat .word 0) :=
  ⟨_, _, rfl, by decide⟩

/-- Time 0, locked, and not the power-on state. -/
theorem test_witness_ResetAllGivesThePowerOnState :
    let s : State := { blocked with clock := { State.reset.clock with pllcon0 := 0x200#32 } }
    s.now = 0 ∧ s.clock.pllLocked = true ∧ s.uart.retryArmed = true :=
  by decide

/-- The second input at 20 MHz. -/
theorem test_witness_ResetOfTheRouterAndOfTheClock :
    State.reset.cfg.fIn1 = 20000000 :=
  rfl

/-- The line is raised by two sources, and the next operation lowers one. -/
theorem test_witness_EveryStepKeepsTheRouterOutputInvariant :
    RouterOutputAgrees twoRaisedGiven ∧ ∃ t, step twoRaisedGiven = .next t :=
  ⟨(routerOutputAgrees_congr (s := twoRaised) rfl rfl).mpr (evaluate_agrees _), exists_next (by decide)⟩

/-- A retry is armed, and the next operation offers the byte again. -/
theorem test_witness_EveryStepKeepsTheStoredForm :
    let s : State := { blocked with input := [{ stores := [(5, 1#8)], op := encode (.evWritable .accepted) }] }
    StoredFormHolds s ∧ ∃ t, step s = .next t :=
  ⟨⟨by decide, by decide⟩, exists_next (by decide)⟩

/-- The reference parameters, those with the block-transfer pair and those without a transport are well formed. -/
theorem test_witness_OnlyConstructionFaults :
    Params.reference.wf ∧ withBlock.wf ∧ silent.wf ∧ wideRouter.wf :=
  ⟨by decide, by decide, by decide, by decide⟩

/-- Accesses at the end of a window, past it, and not aligned. -/
theorem test_witness_AdmittedAccessesCompleteOthersAreRefused :
    (∃ e rest, (putFirst (Op.ofNumber 0x210000FC) State.reset).input = e :: rest ∧
      Form.parse e.op.desc = .ok (.bus .read .word .ccu 0xFC)) ∧ Admitted Params.reference .ccu 0xFC .word ∧
    (∃ e rest, (putFirst (Op.ofNumber 0x01000100) State.reset).input = e :: rest ∧
      Form.parse e.op.desc = .ok (.bus .read .byte .ccu 0x100)) ∧ ¬ Admitted Params.reference .ccu 0x100 .byte ∧
    (∃ e rest, (putFirst (Op.ofNumber 0x13000021) State.reset).input = e :: rest ∧
      Form.parse e.op.desc = .ok (.bus .read .half .uart 0x21)) ∧ ¬ Admitted Params.reference .uart 0x21 .half :=
  ⟨⟨_, _, rfl, by decide⟩, by decide, ⟨_, _, rfl, by decide⟩, by decide, ⟨_, _, rfl, by decide⟩, by decide⟩

/-- An operation that reads guest memory completes. -/
theorem test_witness_NoOperationWritesGuestMemory :
    ∃ t, exec (.wrUartUndeclared .word 0xE4 2#32 .accepted) { State.init withBlock with guest := [(1, 0x7A#8)] } = .next t :=
  exists_next (by decide)

/-- An operation that reports, and one that is refused. -/
theorem test_witness_TheTraceIsAppendedToAndNeverRead :
    (∃ t, exec (.rdCcuUndeclared .word 0x00) State.reset = .next t) ∧ exec .evAlarm State.reset = .refused .alarmNotArmed :=
  ⟨exists_next (by decide), eq_refused (by decide)⟩

/-- The three events that move them complete, and one that does not. -/
theorem test_witness_OnlyTheirEventsMoveTimeAndLock :
    (∃ t, exec (.evTime 5) State.reset = .next t) ∧ (∃ t, exec (.evLock false) State.reset = .next t) ∧
    (∃ t, exec (.evRestore Block.powerOn) State.reset = .next t) ∧ ∃ t, exec (.rdStmTim0 .word 0) State.reset = .next t :=
  ⟨exists_next (by decide), exists_next (by decide), exists_next (by decide), exists_next (by decide)⟩

/-- A commit, a CCUCON1 write that keeps INSEL, and a CCUCON0 write whose merged bit 30 is 1. -/
theorem test_witness_DividersAreEstablishedOnlyByACommit :
    (∃ t, exec (.wrCcuCcucon0 .word 0 0x00020000#32) State.reset = .next t) ∧
    ((∃ t, exec (.wrCcuCcucon1 .byte 1 0x02#32) State.reset = .next t) ∧
      bits 29 28 (mergeLanes State.reset.clock.ccucon1 0x02#32 1 .byte) = bits 29 28 State.reset.clock.ccucon1) ∧
    ((∃ t, exec (.wrCcuCcucon0 .byte 3 0x40#32) State.reset = .next t) ∧
      bit 30 (mergeLanes (ccucon0Read State.reset.clock) 0x40#32 3 .byte) = true) :=
  ⟨exists_next (by decide), ⟨exists_next (by decide), by decide⟩, ⟨exists_next (by decide), by decide⟩⟩

/-- An access to each unit completes. -/
theorem test_witness_AnAccessReachesOnlyItsUnitAndTheRouter :
    ((Instr.wrIrSrc 255 .word 0 0x04000455#32).form = .bus .write .word .ir 0x3FC ∧ ∃ t, exec (.wrIrSrc 255 .word 0 0x04000455#32) State.reset = .next t) ∧
    ((Instr.wrCcuCcucon1 .byte 3 0#32).form = .bus .write .byte .ccu 0x37 ∧ ∃ t, exec (.wrCcuCcucon1 .byte 3 0#32) State.reset = .next t) ∧
    ((Instr.wrStmIscr .word 0 2#32).form = .bus .write .word .stm 0x40 ∧ ∃ t, exec (.wrStmIscr .word 0 2#32) State.reset = .next t) ∧
    ((Instr.rdUartRxdata .half 2).form = .bus .read .half .uart 0x4A ∧ ∃ t, exec (.rdUartRxdata .half 2) State.reset = .next t) :=
  ⟨⟨rfl, exists_next (by decide)⟩, ⟨rfl, exists_next (by decide)⟩, ⟨rfl, exists_next (by decide)⟩, ⟨rfl, exists_next (by decide)⟩⟩

/-- A read that captures, one that takes a byte, and one without effect. -/
theorem test_witness_ReadsHaveOnlyTheListedSideEffects :
    ((Instr.rdStmTim5 .byte 3).form = .bus .read .byte .stm 0x27 ∧ ∃ t, exec (.rdStmTim5 .byte 3) State.reset = .next t) ∧
    ((Instr.rdUartRxdata .word 0).form = .bus .read .word .uart 0x48 ∧ ∃ t, exec (.rdUartRxdata .word 0) twoBuffered = .next t) ∧
    ((Instr.rdIrSrc 0 .word 0).form = .bus .read .word .ir 0x000 ∧ ∃ t, exec (.rdIrSrc 0 .word 0) twoRaised = .next t) :=
  ⟨⟨rfl, exists_next (by decide)⟩, ⟨rfl, exists_next (by decide)⟩, ⟨rfl, exists_next (by decide)⟩⟩

/-- An access, a burst and a retry complete, the parameters being well formed. -/
theorem test_witness_UartOperationsSendTheThreeLevels :
    Params.reference.wf ∧ ((Instr.rdUartUndeclared .byte 0xE7).form = .bus .read .byte .uart 0xE7 ∧
      ∃ t, exec (.rdUartUndeclared .byte 0xE7) State.reset = .next t) ∧
    (∃ t, exec (.evRx [0x61#8]) State.reset = .next t) ∧ ∃ t, exec (.evWritable .accepted) blocked = .next t :=
  ⟨by decide, ⟨rfl, exists_next (by decide)⟩, exists_next (by decide), exists_next (by decide)⟩

/-- An undeclared write, an alarm and a read complete. -/
theorem test_witness_TimerWritesAndAlarmsSendTheLevel :
    ((Instr.wrStmUndeclared .byte 0xE7 0#32).form = .bus .write .byte .stm 0xE7 ∧
      ∃ t, exec (.wrStmUndeclared .byte 0xE7 0#32) State.reset = .next t) ∧
    (∃ t, exec .evAlarm (armedAt 5000) = .next t) ∧
    ((Instr.rdStmAccen0 .byte 3).form = .bus .read .byte .stm 0xFF ∧ ∃ t, exec (.rdStmAccen0 .byte 3) State.reset = .next t) :=
  ⟨⟨rfl, exists_next (by decide)⟩, exists_next (by decide), ⟨rfl, exists_next (by decide)⟩⟩

/-- A level that is there already, one that is not, a source no unit owns next to one that is owned. -/
theorem test_witness_LevelEventSetsThePendingBit :
    (twoRaised.router.source 40).pending = true ∧ (State.reset.router.source 255).pending ≠ true ∧
    ((9 : SourceIndex) ≠ State.reset.cfg.timerSrc ∧ (9 : SourceIndex) ≠ State.reset.cfg.uartRxSrc ∧
      (9 : SourceIndex) ≠ State.reset.cfg.uartTxSrc ∧ (9 : SourceIndex) ≠ State.reset.cfg.uartErrSrc) ∧
    (10 : SourceIndex) = State.reset.cfg.timerSrc ∧ (22 : SourceIndex) = State.reset.cfg.uartErrSrc :=
  by decide

/-- A lowest qualifying source above which another one qualifies, and a state in which none does. -/
theorem test_witness_EvaluateForwardsTheLowestQualifyingSource :
    LowestQualifying twoRaised 40 ∧ SourceQualifies twoRaised 41 ∧ ∀ i, ¬ SourceQualifies State.reset i :=
  ⟨⟨by unfold SourceQualifies; decide +kernel, by unfold SourceQualifies; decide +kernel⟩, by unfold SourceQualifies; decide +kernel,
    by unfold SourceQualifies; decide +kernel⟩

/-- Well-formed parameters, and each size at its highest lane. -/
theorem test_witness_SourceWordReads :
    State.reset.cfg.wf ∧ Aligned .byte 3 ∧ Aligned .half 2 ∧ Aligned .word 0 :=
  by decide

/-- Well-formed parameters, and each size at its lowest lane. -/
theorem test_witness_SourceWordWrites :
    State.reset.cfg.wf ∧ Aligned .byte 0 ∧ Aligned .half 0 ∧ Aligned .word 0 :=
  by decide

/-- Completed writes of lane 0, of lanes 2 and 3, and of lanes 0 and 1. -/
theorem test_witness_NarrowSourceWritesKeepTheEnable :
    (∃ t, exec (.wrIrSrc 9 .byte 0 0x33#32) twoRaised = .next t) ∧ (∃ t, exec (.wrIrSrc 40 .half 2 0x0200#32) twoRaised = .next t) ∧
    ∃ t, exec (.wrIrSrc 40 .half 0 0x0600#32) twoRaised = .next t :=
  ⟨exists_next (by decide), exists_next (by decide), exists_next (by decide)⟩

/-- Undeclared offsets of each unit, at the ends of their ranges. -/
theorem test_witness_UndeclaredOffsetsReadZeroAndAreReported :
    (irUndeclared 0x400 = true ∧ Admitted wideRouter .ir 0x400 .word) ∧ (ccuUndeclared 0x38 = true ∧ Admitted Params.reference .ccu 0x38 .word) ∧
    (ccuUndeclared 0xFF = true ∧ Admitted Params.reference .ccu 0xFF .byte) ∧ (stmUndeclared 0xE6 = true ∧ Admitted Params.reference .stm 0xE6 .half) ∧
    (uartUndeclared 0x54 = true ∧ Admitted Params.reference .uart 0x54 .word ∧ Params.reference.blkPresent = false) ∧
    (uartUndeclared 0xE0 = true ∧ Admitted withBlock .uart 0xE0 .word ∧ withBlock.blkPresent = true ∧
      wordOffset 0xE0 ≠ withBlock.blkAddrOff ∧ wordOffset 0xE0 ≠ withBlock.blkLenOff) :=
  by decide

/-- An aligned access, and it completes. -/
theorem test_witness_ClockRegisterReads :
    Aligned .byte 3 ∧ ∃ t, exec (.rdCcuCcucon1 .byte 3) State.reset = .next t :=
  ⟨by decide, exists_next (by decide)⟩

/-- An aligned access, and it completes. -/
theorem test_witness_ClockRegisterWrites :
    Aligned .half 2 ∧ ∃ t, exec (.wrCcuCcucon1 .half 2 0#32) State.reset = .next t :=
  ⟨by decide, exists_next (by decide)⟩

/-- An aligned access, and it completes. -/
theorem test_witness_Pllcon0WriteSetsModeAndFactors :
    Aligned .byte 0 ∧ ∃ t, exec (.wrCcuPllcon0 .byte 0 0x10#32) State.reset = .next t :=
  ⟨by decide, exists_next (by decide)⟩

/-- An aligned access, and it completes. -/
theorem test_witness_TapReadsShowOneInstantOfTheCounter :
    Aligned .byte 3 ∧ ∃ t, exec (.rdStmTim0 .byte 3) State.reset = .next t :=
  ⟨by decide, exists_next (by decide)⟩

/-- An aligned access, and it completes. -/
theorem test_witness_TimerStorageReads :
    Aligned .half 2 ∧ ∃ t, exec (.rdStmCmp1 .half 2) State.reset = .next t :=
  ⟨by decide, exists_next (by decide)⟩

/-- An aligned access, and it completes. -/
theorem test_witness_TimerOtherReads :
    Aligned .byte 0 ∧ ∃ t, exec (.rdStmIcr .byte 0) State.reset = .next t :=
  ⟨by decide, exists_next (by decide)⟩

/-- An aligned access, and it completes. -/
theorem test_witness_TimerStorageWrites :
    Aligned .byte 3 ∧ ∃ t, exec (.wrStmAccen0 .byte 3 0#32) State.reset = .next t :=
  ⟨by decide, exists_next (by decide)⟩

/-- An aligned access, and it completes. -/
theorem test_witness_TimerIgnoredWrites :
    Aligned .word 0 ∧ ∃ t, exec (.wrStmTim0 .word 0 0#32) State.reset = .next t :=
  ⟨by decide, exists_next (by decide)⟩

/-- An aligned access, and it completes. -/
theorem test_witness_CompareWritesArmOneAlarm :
    Aligned .byte 3 ∧ ∃ t, exec (.wrStmCmp1 .byte 3 1#32) (armedAt 4999) = .next t :=
  ⟨by decide, exists_next (by decide)⟩

/-- An aligned access, and it completes. -/
theorem test_witness_IcrWriteArmsTheLowestEnabledChannel :
    Aligned .byte 0 ∧ ∃ t, exec (.wrStmIcr .byte 0 0x11#32) (armedAt 4999) = .next t :=
  ⟨by decide, exists_next (by decide)⟩

/-- An aligned access, and it completes. -/
theorem test_witness_IscrWriteClearsThenSetsRequests :
    Aligned .half 0 ∧ ∃ t, exec (.wrStmIscr .half 0 0xF#32) State.reset = .next t :=
  ⟨by decide, exists_next (by decide)⟩

/-- An aligned access, and it completes. -/
theorem test_witness_UartLineRegisterReads :
    Aligned .byte 3 ∧ ∃ t, exec (.rdUartClc .byte 3) State.reset = .next t :=
  ⟨by decide, exists_next (by decide)⟩

/-- An aligned access, and it completes. -/
theorem test_witness_UartControlRegisterReads :
    Aligned .byte 3 ∧ ∃ t, exec (.rdUartAccen0 .byte 3) State.reset = .next t :=
  ⟨by decide, exists_next (by decide)⟩

/-- An aligned access, and it completes. -/
theorem test_witness_UartComputedReads :
    Aligned .byte 3 ∧ ∃ t, exec (.rdUartFlags .byte 3) State.reset = .next t :=
  ⟨by decide, exists_next (by decide)⟩

/-- An aligned access, and it completes. -/
theorem test_witness_UartLineRegisterWrites :
    Aligned .half 2 ∧ ∃ t, exec (.wrUartClc .half 2 1#32) State.reset = .next t :=
  ⟨by decide, exists_next (by decide)⟩

/-- An aligned access, and it completes. -/
theorem test_witness_UartControlRegisterWrites :
    Aligned .byte 0 ∧ ∃ t, exec (.wrUartTxfifocon .byte 0 1#32) State.reset = .next t :=
  ⟨by decide, exists_next (by decide)⟩

/-- An aligned access, and it completes. -/
theorem test_witness_UartFlagCommandsAndIgnoredWrites :
    Aligned .half 2 ∧ ∃ t, exec (.wrUartFlagsset .half 2 1#32) State.reset = .next t :=
  ⟨by decide, exists_next (by decide)⟩

/-- An aligned access, and it completes. -/
theorem test_witness_RxfifoconWriteFlushesAndRequestsResume :
    Aligned .byte 0 ∧ ∃ t, exec (.wrUartRxfifocon .byte 0 3#32) State.reset = .next t :=
  ⟨by decide, exists_next (by decide)⟩

/-- An aligned access, and it completes. -/
theorem test_witness_RxdataReadTakesTheOldestByte :
    Aligned .byte 3 ∧ ∃ t, exec (.rdUartRxdata .byte 3) twoBuffered = .next t :=
  ⟨by decide, exists_next (by decide)⟩

/-- Aligned writes with the merged bit 30 clear and set. -/
theorem test_witness_Ccucon0WriteCommitsOrSetsTheLatch :
    Aligned .word 0 ∧ bit 30 (mergeLanes (ccucon0Read State.reset.clock) 0x00070000#32 0 .word) = false ∧
    Aligned .byte 3 ∧ bit 30 (mergeLanes (ccucon0Read State.reset.clock) 0x40#32 3 .byte) = true :=
  by decide

/-- Each INSEL, each mode, and the two clock words of the source checks. -/
theorem test_witness_FrequencyOfEachMode :
    let c := State.reset.clock
    (bits 29 28 { c with ccucon1 := 0x01000100#32 }.ccucon1 = 0 ∧ bits 29 28 c.ccucon1 = 1 ∧ bits 29 28 (0x21000100#32) = 2 ∧ bits 29 28 (0x31000100#32) = 3) ∧
    (clockMode c = .prescaler ∧ clockMode { c with pllcon0 := 0x200#32 } = .normal ∧
      clockMode { c with pllcon0 := 0#32, findis := true } = .freerunning ∧
      clockMode { c with pllcon0 := 0#32, pllLocked := false } = .illegal) ∧
    State.reset.cfg.fIn1 = 20000000 ∧ c.findis = false ∧ c.pllLocked = true ∧ c.pllcon1 = 0#32 ∧ c.pllcon0 = 0x00000001#32 :=
  by decide

/-- An alarm at its deadline, one before it, and none. -/
theorem test_witness_AlarmFiresOnceAtOrAfterItsDeadline :
    ((armedAt 5000).timer.alarm = some { deadline := 5000, ch := .ch0 } ∧ 5000 ≤ (armedAt 5000).now) ∧ State.reset.timer.alarm = none ∧
    ((armedAt 4999).timer.alarm = some { deadline := 5000, ch := .ch0 } ∧ (armedAt 4999).now < 5000) :=
  by decide

/-- Both channels enabled, a running timer domain, and the largest distance, by each of the three writes. -/
theorem test_witness_ArmedDeadlineIsTheMatchWithinOneNanosecond :
    let n := 2 ^ 32 - 1
    (behind.timer.t0 ≤ behind.now ∧ n < 2 ^ 32 ∧ 0 < timerFrequency behind) ∧
    (behind.timer.cmp0.en = true ∧ mergeLanes behind.timer.cmp0.word 19#32 0 .byte = tap behind 0 + BitVec.ofNat 32 n ∧
      ∃ t, exec (.wrStmCmp0 .byte 0 19#32) behind = .next t) ∧
    (behind.timer.cmp1.en = true ∧ mergeLanes behind.timer.cmp1.word 19#32 0 .byte = tap behind 0 + BitVec.ofNat 32 n ∧
      ∃ t, exec (.wrStmCmp1 .byte 0 19#32) behind = .next t) ∧
    ((∃ t, exec (.wrStmIcr .byte 0 0x11#32) behind = .next t) ∧ bit 0 (mergeLanes (icrRead behind.timer) 0x11#32 0 .byte) = true ∧
      behind.timer.cmp0.word = tap behind 0 + BitVec.ofNat 32 n) ∧
    ((∃ t, exec (.wrStmIcr .byte 0 0x10#32) behind = .next t) ∧ bit 0 (mergeLanes (icrRead behind.timer) 0x10#32 0 .byte) = false ∧
      bit 4 (mergeLanes (icrRead behind.timer) 0x10#32 0 .byte) = true ∧ behind.timer.cmp1.word = tap behind 0 + BitVec.ofNat 32 n) :=
  ⟨by decide, ⟨by decide, by decide, exists_next (by decide)⟩, ⟨by decide, by decide, exists_next (by decide)⟩, ⟨exists_next (by decide), by decide⟩, ⟨exists_next (by decide), by decide⟩⟩

/-- Every way of the dispatch: without a transport, busy under each policy, and an attempt; the last byte of a block. -/
theorem test_witness_TxdataWriteDispatchesTheByte :
    Aligned .byte 3 ∧ (∃ t, exec (.wrUartTxdata .byte 3 1#32 .wouldBlock) State.reset = .next t) ∧
    (silent.transportPresent = false ∧ ∃ t, exec (.wrUartTxdata .byte 3 1#32 .accepted) (State.init silent) = .next t) ∧
    (blocked.cfg.transportPresent = true ∧ blocked.uart.retryArmed = true ∧ blocked.cfg.txBusy = .overwrite ∧
      ∃ t, exec (.wrUartTxdata .byte 3 1#32 .accepted) blocked = .next t) ∧
    (let s : State := { blocked with cfg := { Params.reference with txBusy := .drop } };
      s.cfg.transportPresent = true ∧ s.uart.retryArmed = true ∧ s.cfg.txBusy = .drop ∧
        ∃ t, exec (.wrUartTxdata .byte 3 1#32 .accepted) s = .next t) ∧
    1 < (2#32).toNat :=
  ⟨by decide, exists_next (by decide), ⟨by decide, exists_next (by decide)⟩, ⟨by decide, by decide, by decide, exists_next (by decide)⟩, ⟨by decide, by decide, by decide, exists_next (by decide)⟩, by decide⟩

/-- With a transport and without one. -/
theorem test_witness_RxBurstFillsTheRingAndDropsTheRest :
    State.reset.cfg.transportPresent = true ∧ (State.init silent).cfg.transportPresent = false :=
  by decide

/-- A burst that just fits, one that is a byte too long, and a byte to read with one behind it. -/
theorem test_witness_ReceiveRingIsAFifo :
    ((∃ t, exec (.evRx [0x61#8]) roomForOne = .next t) ∧ [0x61#8].length ≤ ringFree roomForOne.uart) ∧
    ((∃ t, exec (.evRx [0x61#8, 0x62#8]) roomForOne = .next t) ∧ ringFree roomForOne.uart < [0x61#8, 0x62#8].length) ∧
    (buffered twoBuffered.uart = 0x61#8 :: [0x62#8] ∧ (∃ t, exec (.rdUartRxdata .word 0) twoBuffered = .next t) ∧
      ∃ t, exec (.rdUartRxdata .byte 3) twoBuffered = .next t) :=
  ⟨⟨exists_next (by decide), by decide⟩, ⟨exists_next (by decide), by decide⟩, ⟨by decide, exists_next (by decide), exists_next (by decide)⟩⟩

/-- A retry armed for an item, and each of the three that is missing. -/
theorem test_witness_WritableOffersThePendingItemAgain :
    (blocked.cfg.transportPresent = true ∧ blocked.uart.retryArmed = true ∧ blocked.uart.txPend = some (.byte 0x41#8)) ∧
    (State.init silent).cfg.transportPresent = false ∧ State.reset.uart.retryArmed = false ∧ State.reset.uart.txPend = none :=
  by decide

/-- The pair at its two offsets, a word and the last byte of one. -/
theorem test_witness_BlockTransferPair :
    (State.init withBlock).cfg.wf ∧ (State.init withBlock).cfg.blkPresent = true ∧
    (Admitted withBlock .uart 0x54 .word ∧ wordOffset 0x54 = withBlock.blkAddrOff) ∧
    (Admitted withBlock .uart 0xE7 .byte ∧ wordOffset 0xE7 = withBlock.blkLenOff) ∧ mergeLanes 0#32 1#32 (laneOf 0xE7) .byte ≠ 0#32 ∧
    mergeLanes 0#32 0#32 (laneOf 0xE7) .byte = 0#32 :=
  by decide

/-- A blob of a snapshot's form, with an item pending and an alarm overdue; a state of both invariants to restore. -/
theorem test_witness_SnapshotAndRestore :
    Block.snapshotForm Params.reference { blocked.toBlock with timer := (armedAt 6000).timer, now := 6000 } = true ∧
    StoredFormHolds twoRaised ∧ RouterOutputAgrees twoRaised ∧ ∃ t, exec (.evRestore twoRaised.toBlock) State.reset = .next t :=
  ⟨by decide, ⟨by decide, by decide⟩, evaluate_agrees _, exists_next (by decide)⟩

/-- TC set by a TXDATA write and by a block of a length, RFO set by FLAGSSET and cleared by FLAGSCLEAR and by a flush. -/
theorem test_witness_FlagsChangeOnlyThroughTheirWriters :
    (bit 17 State.reset.uart.flags = false ∧ after (fun t => bit 17 t.uart.flags) (exec (.wrUartTxdata .word 0 0x41#32 .accepted) State.reset) = some true) ∧
    after (fun t => bit 17 t.uart.flags) (exec (.wrUartUndeclared .word 0xE4 2#32 .accepted) (State.init withBlock)) = some true ∧
    after (fun t => bit 26 t.uart.flags) (exec (.wrUartFlagsset .word 0 0x04000000#32) State.reset) = some true ∧
    (bit 26 overrun.uart.flags = true ∧ after (fun t => bit 26 t.uart.flags) (exec (.wrUartFlagsclear .word 0 0x04000000#32) overrun) = some false ∧
      after (fun t => bit 26 t.uart.flags) (exec (.wrUartRxfifocon .word 0 1#32) overrun) = some false) :=
  by decide

end Sys2Proof.Tests
end

section
/-! O5 and O19: what a step takes from the input, and how far a bus access reaches (R3, R21, R88, R209). A completed access is an effect
inside its unit, then the after-access actions of R88; the first leaves every other unit and the parameters alone, the second nothing but
pending bits of the unit's own sources. -/

namespace Sys2Proof.Machine

/-- A step whose next operation decodes is `exec` of it, once the entry is taken from the input. -/
theorem step_of_decode {s : State} {e : Entry} {rest : List Entry} {i : Instr} (hin : s.input = e :: rest)
    (hdec : decode e.op = .ok i) : step s = exec i (takeEntry e rest s) := by
  simp [step, hin, hdec]

/-- Settles O5: the entry taken is the guest memory with the CPU stores done and the rest of the input. -/
theorem stepRunsTheDecodedOperation : Obligations.StepRunsTheDecodedOperation := by
  unfold Obligations.StepRunsTheDecodedOperation
  intro s e rest i hin hdec
  rw [step_of_decode hin hdec, takeEntry]

/-- From `s` to `t` no unit but `u` changed, nor did the parameters; the transport requests count as the UART's (R39). -/
structure OnlyUnitChanged (u : UnitId) (s t : State) : Prop where
  cfg : t.cfg = s.cfg
  router : u ≠ .ir → t.router = s.router
  clock : u ≠ .ccu → t.clock = s.clock
  timer : u ≠ .stm → t.timer = s.timer
  uart : u ≠ .uart → t.uart = s.uart
  emitted : u ≠ .uart → t.emitted = s.emitted

theorem OnlyUnitChanged.refl (u : UnitId) (s : State) : OnlyUnitChanged u s s := by
  constructor <;> intros <;> rfl

theorem onlyUnitChanged_report (u : UnitId) (ds : List Diag) (s : State) : OnlyUnitChanged u s (s.report ds) := by
  constructor <;> simp

/-- The side effect of a read stays in the unit that is read. -/
theorem ReadEffect.onlyUnitChanged {u : UnitId} {eff : State → State} (he : ReadEffect u eff) (s : State) :
    OnlyUnitChanged u s (eff s) := by
  cases he with
  | quiet => exact .refl u s
  | captureCap | captureCapsv | reportTap => constructor <;> simp
  | advanceRx => constructor <;> simp

/-- The word-level rule of a write stays in the unit that is written. -/
theorem WriteEffect.onlyUnitChanged {p : Params} {u : UnitId} {eff : Word → State → State} (he : WriteEffect p u eff) (v : Word)
    (s : State) : OnlyUnitChanged u s (eff v s) := by
  cases he with
  | ignored => exact .refl u s
  | source => constructor <;> simp
  | pllcon0 | pllcon1 | ccucon0 | ccucon1 => constructor <;> simp
  | timerWord | compare | icr | iscr => constructor <;> simp
  | uartWord | txfifocon | rxfifocon | flagsset | flagsclear | txdata | blkAddr | blkLen => constructor <;> simp

/-- A completed bus access is an effect inside its unit, a result, and the after-access actions of R88. -/
theorem exec_bus_eq_next {i : Instr} {s t : State} {d : Dir} {sz : Size} {u : UnitId} {off : Offset}
    (hf : i.form = .bus d sz u off) (h : exec i s = .next t) :
    ∃ s' r, OnlyUnitChanged u s s' ∧ t = afterAccess u d (s'.returning r) := by
  have hbus := exec_bus i s hf
  rw [h] at hbus
  generalize ho : Host.Outcome.next t = o at hbus
  cases hbus with
  | read w lane cur eff hd _ he => subst hd; exact ⟨_, _, he.onlyUnitChanged s, readReg_eq_next ho.symm⟩
  | write w lane data cur eff hd _ he => subst hd; exact ⟨_, _, he.onlyUnitChanged _ s, writeReg_eq_next ho.symm⟩
  | undeclaredRead hd => subst hd; exact ⟨_, _, onlyUnitChanged_report u _ s, readUndeclared_eq_next ho.symm⟩
  | undeclaredWrite hd => subst hd; exact ⟨_, _, onlyUnitChanged_report u _ s, writeUndeclared_eq_next ho.symm⟩

/-- The after-access actions of the timer move no source but the timer's. -/
theorem afterAccess_stm_source_other (d : Dir) (s : State) (j : SourceIndex) (hj : j ≠ s.cfg.timerSrc) :
    (afterAccess .stm d s).router.source j = s.router.source j := by
  cases d with
  | read => rfl
  | write => exact setLevel_source_other _ _ _ _ hj

/-- The after-access actions change nothing of a source but its pending bit. -/
theorem afterAccess_source_config (u : UnitId) (d : Dir) (s : State) (j : SourceIndex) :
    ((afterAccess u d s).router.source j).enabled = (s.router.source j).enabled ∧
      ((afterAccess u d s).router.source j).prio = (s.router.source j).prio := by
  cases u with
  | ir | ccu => exact ⟨rfl, rfl⟩
  | stm =>
    cases d with
    | read => exact ⟨rfl, rfl⟩
    | write => exact setLevel_source_config _ j _ s
  | uart => simp [sendUart, setLevel_source_config]

/-- Settles O19: the effect inside the unit and the after-access actions, field by field. -/
theorem anAccessReachesOnlyItsUnitAndTheRouter : Obligations.AnAccessReachesOnlyItsUnitAndTheRouter := by
  unfold Obligations.AnAccessReachesOnlyItsUnitAndTheRouter
  intro i s t d sz u off hf h
  obtain ⟨s', r, hs, rfl⟩ := exec_bus_eq_next hf h
  have hcfg : (s'.returning r).cfg = s.cfg := hs.cfg
  refine ⟨fun hu => ?_, fun hu => ?_, fun hu => ⟨?_, ?_⟩, ?_, ?_, ?_, fun hu j => ?_⟩
  · simp [hs.clock hu]
  · simp [hs.timer hu]
  · simp [hs.uart hu]
  · simp [hs.emitted hu]
  · rintro rfl
    exact hs.router (by decide)
  · rintro rfl j hj
    rw [afterAccess_stm_source_other _ _ _ (hcfg ▸ hj), State.returning_router, hs.router (by decide)]
  · rintro rfl j hrx htx herr
    rw [afterAccess_uart_any, sendUart_source_other _ _ (hcfg ▸ hrx) (hcfg ▸ htx) (hcfg ▸ herr), State.returning_router,
      hs.router (by decide)]
  · have hconfig := afterAccess_source_config u d (s'.returning r) j
    rwa [State.returning_router, hs.router hu] at hconfig

end Sys2Proof.Machine
end

section
/-! O12, O17 and O6: the stored form, the virtual time and the lock input, and the values at power-on. What a completed operation leaves is
said once (`Completed`), and each invariant is then a case analysis over it. -/

namespace Sys2Proof.Machine

/-- What a bus access of unit `u` can make of `s`, before the result and the after-access actions of R88. -/
inductive BusEffect (p : Params) (u : UnitId) (s : State) : State → Prop where
  | read {eff : State → State} (he : ReadEffect u eff) : BusEffect p u s (eff s)
  | write {eff : Word → State → State} (he : WriteEffect p u eff) (v : Word) : BusEffect p u s (eff v s)
  | undeclared (ds : List Diag) : BusEffect p u s (s.report ds)

/-- What an operation that completes from `s` leaves: a bus access its effect, result and level sends, an event the effect of R112,
with the condition under which it is taken. -/
inductive Completed (s : State) : Instr → State → Prop where
  | bus {i : Instr} {d : Dir} {sz : Size} {u : UnitId} {off : Offset} {s' : State} (hf : i.form = .bus d sz u off)
      (he : BusEffect s.cfg u s s') (r : Result) : Completed s i (afterAccess u d (s'.returning r))
  | reset (u : UnitId) : Completed s (.evReset u) ((resetUnit u s).returning .nothing)
  | resetAll : Completed s .evResetAll ((resetAll s).returning .nothing)
  | time (delta : Nat) : Completed s (.evTime delta) (State.returning .nothing { s with now := s.now + delta })
  | alarm (a : Alarm) (ha : s.timer.alarm = some a) (hdue : a.deadline ≤ s.now) :
      Completed s .evAlarm ((fireAlarm a s).returning .nothing)
  | rx (bytes : List Byte) (htr : s.cfg.transportPresent = true) : Completed s (.evRx bytes) ((receive bytes s).returning .nothing)
  | writable (ans : Answer) (item : TxItem) (htr : s.cfg.transportPresent = true) (hr : s.uart.retryArmed = true)
      (hp : s.uart.txPend = some item) : Completed s (.evWritable ans)
        ((sendUart (transmit item ans (s.onUart fun u => { u with retryArmed := false }))).returning .nothing)
  | lock (l : Bool) : Completed s (.evLock l) ((s.onClock fun c => { c with pllLocked := l }).returning .nothing)
  | level (j : SourceIndex) (l : Bool) (ho : ownedSource s.cfg j = false) :
      Completed s (.evLevel j l) ((setLevel j l s).returning .nothing)
  | snapshot : Completed s .evSnapshot (s.returning (.blob s.toBlock))
  | restore (b : Block) (hb : b.snapshotForm s.cfg = true) : Completed s (.evRestore b) ((restore b s).returning .nothing)

theorem completed_of_exec_bus {i : Instr} {s t : State} (hb : IsBus i) (h : exec i s = .next t) : Completed s i t := by
  obtain ⟨d, sz, u, off, hf⟩ := hb
  have hbus := exec_bus i s hf
  rw [h] at hbus
  generalize ho : Host.Outcome.next t = o at hbus
  cases hbus with
  | read w lane cur eff hd _ he => subst hd; rw [readReg_eq_next ho.symm]; exact .bus hf (.read he) _
  | write w lane data cur eff hd _ he => subst hd; rw [writeReg_eq_next ho.symm]; exact .bus hf (.write he _) _
  | undeclaredRead hd => subst hd; rw [readUndeclared_eq_next ho.symm]; exact .bus hf (.undeclared _) _
  | undeclaredWrite hd => subst hd; rw [writeUndeclared_eq_next ho.symm]; exact .bus hf (.undeclared _) _

theorem completed_of_exec_evAlarm {s t : State} (h : exec .evAlarm s = .next t) : Completed s .evAlarm t := by
  change execEvAlarm s = .next t at h
  unfold execEvAlarm at h
  split at h
  · cases h
  · next a ha =>
    split at h
    · next hdue => cases h; exact .alarm a ha hdue
    · cases h

theorem completed_of_exec_evWritable {ans : Answer} {s t : State} (h : exec (.evWritable ans) s = .next t) :
    Completed s (.evWritable ans) t := by
  change execEvWritable ans s = .next t at h
  unfold execEvWritable at h
  split at h
  · next htr =>
    split at h
    · next item hr hp => cases h; exact .writable ans item htr hr hp
    · cases h
  · cases h

/-- Everything an operation that completes can do. -/
theorem completed_of_exec {i : Instr} {s t : State} (h : exec i s = .next t) : Completed s i t := by
  rcases bus_or_event i with hb | ⟨u, rfl⟩ | rfl | ⟨delta, rfl⟩ | rfl | ⟨bytes, rfl⟩ | ⟨ans, rfl⟩ | ⟨l, rfl⟩ | ⟨j, l, rfl⟩ | rfl |
    ⟨b, rfl⟩
  · exact completed_of_exec_bus hb h
  · cases h; exact .reset u
  · cases h; exact .resetAll
  · cases h; exact .time delta
  · exact completed_of_exec_evAlarm h
  · change (if _ then _ else _) = _ at h
    split at h
    · next htr => cases h; exact .rx bytes htr
    · cases h
  · exact completed_of_exec_evWritable h
  · cases h; exact .lock l
  · change (if _ then _ else _) = _ at h
    split at h
    · cases h
    · next ho => cases h; exact .level j l (by simpa using ho)
  · cases h; exact .snapshot
  · change (if _ then _ else _) = _ at h
    split at h
    · next hb => cases h; exact .restore b hb
    · cases h

theorem BusEffect.onlyUnitChanged {p : Params} {u : UnitId} {s s' : State} (he : BusEffect p u s s') : OnlyUnitChanged u s s' := by
  cases he with
  | read he => exact he.onlyUnitChanged s
  | write he v => exact he.onlyUnitChanged v s
  | undeclared ds => exact onlyUnitChanged_report u ds s

theorem ReadEffect.now_guest {u : UnitId} {eff : State → State} (he : ReadEffect u eff) (s : State) :
    (eff s).now = s.now ∧ (eff s).guest = s.guest := by
  cases he <;> simp

theorem WriteEffect.now_guest {p : Params} {u : UnitId} {eff : Word → State → State} (he : WriteEffect p u eff) (v : Word) (s : State) :
    (eff v s).now = s.now ∧ (eff v s).guest = s.guest := by
  cases he <;> simp [ignoreWrite]

theorem BusEffect.now_guest {p : Params} {u : UnitId} {s s' : State} (he : BusEffect p u s s') :
    s'.now = s.now ∧ s'.guest = s.guest := by
  cases he with
  | read he => exact he.now_guest s
  | write he v => exact he.now_guest v s
  | undeclared ds => simp

/-! ### The stored form (O12) -/

/-- The bits the clock words store as 0 (R24, R132, R134). -/
structure ClockForm (c : Clock) : Prop where
  pllcon0 : c.pllcon0 &&& 0x00000030#32 = 0#32
  ccucon0 : c.ccucon0 &&& 0xC0000000#32 = 0#32

/-- The form of the UART but for its retry latch: the bits stored as 0, the ring, the item that may wait, the block pair (R34 to R36,
R331). -/
structure UartForm (p : Params) (u : Uart) : Prop where
  flags : u.flags &&& ~~~flagsStored = 0#32
  txfifocon : u.txfifocon &&& 1#32 = 0#32
  rxfifocon : u.rxfifocon &&& 1#32 = 0#32
  ring : Memory.wf u.ring = true ∧ Memory.below u.ring 8192 = true
  waits : ∀ item, u.txPend = some item → p.transportPresent = true ∧ item.possible p = true
  pair : p.blkPresent = true ∨ u.blkLen = 0#32 ∧ u.blkAddr = 0#32

/-- A retry is armed iff an item is pending (R387, R388). -/
def RetryAgrees (u : Uart) : Prop := u.retryArmed = u.txPend.isSome

/-- The stored form, unit by unit. -/
structure FormParts (s : State) : Prop where
  clock : ClockForm s.clock
  counter : s.timer.t0 ≤ s.now
  uart : UartForm s.cfg s.uart
  retry : RetryAgrees s.uart
  guest : Memory.wf s.guest = true

theorem snapshotForm_iff (p : Params) (b : Block) : b.snapshotForm p = true ↔
    ClockForm b.clock ∧ b.timer.t0 ≤ b.now ∧ UartForm p b.uart ∧ (b.uart.retryArmed = true → b.uart.txPend.isSome = true) := by
  constructor
  · intro h
    simp only [Block.snapshotForm, Bool.and_eq_true, decide_eq_true_eq, and_assoc] at h
    obtain ⟨hpll, hccu, ht0, hfl, htx, hrx, hwf, hbelow, harm, htr, hposs, hpair⟩ := h
    refine ⟨⟨hpll, hccu⟩, ht0, ⟨hfl, htx, hrx, ⟨hwf, hbelow⟩, ?_, by simpa using hpair⟩, ?_⟩
    · intro item hi
      simpa [hi] using And.intro htr hposs
    · intro hr
      simpa [hr] using harm
  · rintro ⟨hc, ht0, hu, harm⟩
    simp only [Block.snapshotForm, Bool.and_eq_true, decide_eq_true_eq, and_assoc]
    refine ⟨hc.pllcon0, hc.ccucon0, ht0, hu.flags, hu.txfifocon, hu.rxfifocon, hu.ring.1, hu.ring.2, ?_, ?_, ?_,
      by simpa using hu.pair⟩
    · cases hr : b.uart.retryArmed
      · rfl
      · simpa using harm hr
    · cases hp : b.uart.txPend with
      | none => rfl
      | some item => simpa using (hu.waits item hp).1
    · cases hp : b.uart.txPend with
      | none => rfl
      | some item => simpa using (hu.waits item hp).2

theorem storedFormHolds_iff (s : State) : StoredFormHolds s ↔ FormParts s := by
  rw [StoredFormHolds, snapshotForm_iff]
  constructor
  · rintro ⟨⟨hc, ht0, hu, harm⟩, hret, hg⟩
    exact ⟨hc, ht0, hu, Bool.eq_iff_iff.mpr ⟨harm, hret⟩, hg⟩
  · rintro ⟨hc, ht0, hu, hret, hg⟩
    exact ⟨⟨hc, ht0, hu, fun h => hret ▸ h⟩, fun h => hret.trans h, hg⟩

/-- A word without the bits of `m` keeps none of them. -/
theorem and_not_and_self (v m : Word) : v &&& ~~~m &&& m = 0#32 := by
  ext k; simp

theorem or_and_eq_zero {a b m : Word} (ha : a &&& m = 0#32) (hb : b &&& m = 0#32) : (a ||| b) &&& m = 0#32 := by
  rw [BitVec.and_or_distrib_right, ha, hb, BitVec.or_zero]

theorem and_and_eq_zero {a m : Word} (n : Word) (ha : a &&& m = 0#32) : a &&& n &&& m = 0#32 := by
  rw [BitVec.and_assoc, BitVec.and_comm n, ← BitVec.and_assoc, ha, BitVec.zero_and]

theorem clockForm_resetValue (locked : Bool) : ClockForm (Clock.resetValue locked) := by
  constructor <;> simp [Clock.resetValue]

theorem writePllcon0_clockForm (v : Word) {s : State} (h : ClockForm s.clock) : ClockForm (writePllcon0 v s).clock :=
  ⟨and_not_and_self v _, h.ccucon0⟩

/-- A CCUCON0 write stores bits 29:0 of the word, whether or not it commits (R243). -/
theorem writeCcucon0_words (v : Word) (s : State) :
    (writeCcucon0 v s).clock.pllcon0 = s.clock.pllcon0 ∧ (writeCcucon0 v s).clock.ccucon0 = v &&& 0x3FFFFFFF#32 := by
  unfold writeCcucon0
  split <;> exact ⟨rfl, rfl⟩

theorem writeCcucon0_clockForm (v : Word) {s : State} (h : ClockForm s.clock) : ClockForm (writeCcucon0 v s).clock := by
  obtain ⟨hpll, hccu⟩ := writeCcucon0_words v s
  exact ⟨hpll ▸ h.pllcon0, hccu ▸ and_not_and_self v 0xC0000000#32⟩

/-- An effect on the clock unit keeps the form of its words. -/
theorem BusEffect.clockForm {p : Params} {s s' : State} (he : BusEffect p .ccu s s') (h : ClockForm s.clock) : ClockForm s'.clock := by
  cases he with
  | read he => cases he; exact h
  | write he v =>
    cases he with
    | ignored => exact h
    | pllcon0 => exact writePllcon0_clockForm v h
    | pllcon1 => exact ⟨h.pllcon0, h.ccucon0⟩
    | ccucon0 => exact writeCcucon0_clockForm v h
    | ccucon1 => exact ⟨h.pllcon0, h.ccucon0⟩
  | undeclared => exact h

@[simp] theorem arm_t0 (c : Channel) (s : State) : (arm c s).timer.t0 = s.timer.t0 := by
  rw [arm_timer]

@[simp] theorem writeCompare_t0 (c : Channel) (v : Word) (s : State) : (writeCompare c v s).timer.t0 = s.timer.t0 := by
  simp [writeCompare]

@[simp] theorem writeIcr_t0 (v : Word) (s : State) : (writeIcr v s).timer.t0 = s.timer.t0 := by
  unfold writeIcr
  dsimp only
  split
  · simp
  · split <;> simp

/-- No effect on the timer moves the counter's start. -/
theorem BusEffect.t0 {p : Params} {s s' : State} (he : BusEffect p .stm s s') : s'.timer.t0 = s.timer.t0 := by
  cases he with
  | read he =>
    cases he with
    | quiet | captureCap | captureCapsv | reportTap => rfl
  | write he v =>
    cases he with
    | ignored | iscr => rfl
    | timerWord f hf =>
      obtain ⟨_, _, _, _, ht0, _⟩ := hf v s.timer
      exact ht0
    | compare c => exact writeCompare_t0 c v s
    | icr => exact writeIcr_t0 v s
  | undeclared => rfl

section UartForm

variable {p : Params} {u : Uart}

theorem uartForm_resetValue (p : Params) : UartForm p Uart.resetValue :=
  ⟨rfl, rfl, rfl, ⟨rfl, rfl⟩, by simp [Uart.resetValue], .inr ⟨rfl, rfl⟩⟩

theorem UartForm.orFlags {m : Word} (hm : m &&& ~~~flagsStored = 0#32) (h : UartForm p u) : UartForm p (orFlags m u) :=
  { h with flags := or_and_eq_zero h.flags hm }

theorem UartForm.clearFlags (m : Word) (h : UartForm p u) : UartForm p (clearFlags m u) :=
  { h with flags := and_and_eq_zero _ h.flags }

theorem UartForm.flushRx (h : UartForm p u) : UartForm p (flushRx u) :=
  UartForm.clearFlags _ { h with }

/-- A burst touches nothing of the UART's form but the ring, whose form it keeps. -/
theorem UartForm.pushBurst (bytes : List Byte) (h : UartForm p u) : UartForm p (pushBurst bytes u).1 := by
  rw [pushBurst_frame]
  exact { h with ring := pushBurst_ring bytes u h.ring }

theorem retryAgrees_pushBurst (bytes : List Byte) (h : RetryAgrees u) : RetryAgrees (pushBurst bytes u).1 := by
  rw [pushBurst_frame]
  exact h

/-- An item the machine can hold may wait where there is a transport. -/
theorem UartForm.pend {item : TxItem} (htr : p.transportPresent = true) (hi : item.possible p = true) (h : UartForm p u) (armed : Bool) :
    UartForm p { u with txPend := some item, retryArmed := armed } :=
  { h with waits := by rintro _ ⟨⟩; exact ⟨htr, hi⟩ }

end UartForm

/-- TC is one of the stored flags. -/
theorem flagTc_stored : flagTc &&& ~~~flagsStored = 0#32 := by decide

/-- A delivery attempt leaves the UART in its form, the retry armed iff the item is still pending, whatever the latch held (R387). -/
theorem transmit_uartForm {s : State} {item : TxItem} (ans : Answer) (htr : s.cfg.transportPresent = true)
    (hi : item.possible s.cfg = true) (h : UartForm s.cfg s.uart) :
    UartForm s.cfg (transmit item ans s).uart ∧ RetryAgrees (transmit item ans s).uart := by
  rw [transmit_uart]
  cases ans with
  | accepted => exact ⟨{ h with flags := or_and_eq_zero h.flags flagTc_stored, waits := fun _ hnone => nomatch hnone }, rfl⟩
  | wouldBlock => exact ⟨h.pend htr hi true, rfl⟩

/-- Each way of the dispatch of an item keeps the UART's form (R368). -/
theorem sendItem_uartForm {s : State} {item : TxItem} (ans : Answer) (hi : item.possible s.cfg = true) (h : UartForm s.cfg s.uart)
    (hr : RetryAgrees s.uart) : UartForm s.cfg (sendItem item ans s).uart ∧ RetryAgrees (sendItem item ans s).uart := by
  rcases sendItem_cases s item ans with ⟨_, e⟩ | ⟨htr, harmed, _, e⟩ | ⟨_, _, _, e⟩ | ⟨htr, _, e⟩ <;> rw [e]
  · exact ⟨h.orFlags flagTc_stored, hr⟩
  · exact ⟨h.pend htr hi _, harmed⟩
  · exact ⟨h, hr⟩
  · exact transmit_uartForm ans htr hi h

theorem writeBlkLen_uartForm {s : State} (hblk : s.cfg.blkPresent = true) (ans : Answer) (v : Word) (h : UartForm s.cfg s.uart)
    (hr : RetryAgrees s.uart) : UartForm s.cfg (writeBlkLen ans v s).uart ∧ RetryAgrees (writeBlkLen ans v s).uart := by
  have hlen : UartForm s.cfg { s.uart with blkLen := v } := { h with pair := .inl hblk }
  unfold writeBlkLen
  dsimp only
  split
  · exact ⟨hlen, hr⟩
  · next hv => exact sendItem_uartForm (s := s.onUart fun u => { u with blkLen := v }) ans (by simp [TxItem.possible, hblk, hv]) hlen hr

/-- What an RXFIFOCON write makes of the UART: the flush, then the word without bit 0 (R342). -/
theorem writeRxfifocon_uart (v : Word) (s : State) : (writeRxfifocon v s).uart =
    { (if bit 0 v then flushRx s.uart else s.uart) with rxfifocon := v &&& ~~~1#32 } := by
  unfold writeRxfifocon
  split <;> split <;> rfl

theorem writeRxfifocon_uartForm (v : Word) {s : State} (h : UartForm s.cfg s.uart) (hr : RetryAgrees s.uart) :
    UartForm s.cfg (writeRxfifocon v s).uart ∧ RetryAgrees (writeRxfifocon v s).uart := by
  rw [writeRxfifocon_uart]
  split
  · exact ⟨{ h.flushRx with rxfifocon := and_not_and_self v _ }, hr⟩
  · exact ⟨{ h with rxfifocon := and_not_and_self v _ }, hr⟩

theorem advanceRx_uartForm {s : State} (h : UartForm s.cfg s.uart) (hr : RetryAgrees s.uart) :
    UartForm s.cfg (advanceRx s).uart ∧ RetryAgrees (advanceRx s).uart := by
  unfold advanceRx
  rw [State.onUart_uart]
  split
  · exact ⟨{ h with }, hr⟩
  · exact ⟨h, hr⟩

/-- A write effect on the UART keeps its form. -/
theorem WriteEffect.uartForm {s : State} {eff : Word → State → State} (he : WriteEffect s.cfg .uart eff) (v : Word)
    (h : UartForm s.cfg s.uart) (hr : RetryAgrees s.uart) :
    UartForm s.cfg (eff v s).uart ∧ RetryAgrees (eff v s).uart := by
  have hmask : v &&& flagsStored &&& ~~~flagsStored = 0#32 := by
    simpa using and_not_and_self v (~~~flagsStored)
  cases he with
  | ignored => exact ⟨h, hr⟩
  | uartWord f hf =>
    obtain ⟨htx, hrx, hfl, hring, _, _, hpend, harmed, hlen, haddr⟩ := hf v s.uart
    refine ⟨⟨?_, ?_, ?_, ?_, ?_, ?_⟩, ?_⟩
    · simpa [hfl] using h.flags
    · simpa [htx] using h.txfifocon
    · simpa [hrx] using h.rxfifocon
    · simpa [hring] using h.ring
    · simpa [hpend] using h.waits
    · simpa [hlen, haddr] using h.pair
    · simpa [RetryAgrees, harmed, hpend] using hr
  | txfifocon => exact ⟨{ h with txfifocon := and_not_and_self v _ }, hr⟩
  | rxfifocon => exact writeRxfifocon_uartForm v h hr
  | flagsset => exact ⟨h.orFlags hmask, hr⟩
  | flagsclear => exact ⟨h.clearFlags _, hr⟩
  | txdata ans => exact sendItem_uartForm ans rfl h hr
  | blkAddr hblk => exact ⟨{ h with pair := .inl hblk }, hr⟩
  | blkLen hblk ans => exact writeBlkLen_uartForm hblk ans v h hr

theorem BusEffect.uartForm {s s' : State} (he : BusEffect s.cfg .uart s s') (h : UartForm s.cfg s.uart) (hr : RetryAgrees s.uart) :
    UartForm s.cfg s'.uart ∧ RetryAgrees s'.uart := by
  cases he with
  | read he =>
    cases he with
    | quiet => exact ⟨h, hr⟩
    | advanceRx => exact advanceRx_uartForm h hr
  | write he v => exact he.uartForm v h hr
  | undeclared => exact ⟨h, hr⟩

/-- The stored form says nothing of the router, the traces, the result and the input. -/
theorem FormParts.congr {s t : State} (h : FormParts s) (hclock : t.clock = s.clock) (htimer : t.timer.t0 = s.timer.t0)
    (huart : t.uart = s.uart) (hnow : t.now = s.now) (hcfg : t.cfg = s.cfg) (hguest : t.guest = s.guest) : FormParts t where
  clock := hclock ▸ h.clock
  counter := by rw [htimer, hnow]; exact h.counter
  uart := by rw [hcfg, huart]; exact h.uart
  retry := huart ▸ h.retry
  guest := hguest ▸ h.guest

/-- The effect of a bus access keeps the stored form: of its own unit by that unit's lemma, of the others because it leaves them alone. -/
theorem BusEffect.formParts {u : UnitId} {s s' : State} (he : BusEffect s.cfg u s s') (h : FormParts s) : FormParts s' := by
  have honly := he.onlyUnitChanged
  obtain ⟨hnow, hguest⟩ := he.now_guest
  have huart : UartForm s.cfg s'.uart ∧ RetryAgrees s'.uart := by
    by_cases hu : u = .uart
    · subst hu; exact he.uartForm h.uart h.retry
    · rw [honly.uart hu]; exact ⟨h.uart, h.retry⟩
  refine ⟨?_, ?_, honly.cfg ▸ huart.1, huart.2, hguest ▸ h.guest⟩
  · by_cases hu : u = .ccu
    · subst hu; exact he.clockForm h.clock
    · rw [honly.clock hu]; exact h.clock
  · rw [hnow]
    by_cases hu : u = .stm
    · subst hu; rw [he.t0]; exact h.counter
    · rw [honly.timer hu]; exact h.counter

theorem FormParts.setLevel {s : State} (h : FormParts s) (j : SourceIndex) (l : Bool) : FormParts (setLevel j l s) :=
  h.congr (by simp) (by simp) (by simp) (by simp) (by simp) (by simp)

theorem FormParts.sendUart {s : State} (h : FormParts s) : FormParts (sendUart s) :=
  ((h.setLevel _ _).setLevel _ _).setLevel _ _

theorem FormParts.afterAccess {s : State} (h : FormParts s) (u : UnitId) (d : Dir) : FormParts (afterAccess u d s) :=
  h.congr (by simp) (by simp) (by simp) (by simp) (by simp) (by simp)

theorem FormParts.returning {s : State} (h : FormParts s) (r : Result) : FormParts (s.returning r) :=
  h.congr rfl rfl rfl rfl rfl rfl

theorem FormParts.resetRouter {s : State} (h : FormParts s) : FormParts (resetRouter s) :=
  h.congr rfl rfl rfl rfl rfl rfl

theorem FormParts.resetClock {s : State} (h : FormParts s) : FormParts (resetClock s) :=
  { h with clock := clockForm_resetValue _ }

/-- After a timer reset the counter starts now. -/
theorem FormParts.resetTimer {s : State} (h : FormParts s) : FormParts (resetTimer s) :=
  have hstart : FormParts (s.onTimer fun _ => Timer.resetValue s.now) := { h with counter := le_rfl }
  hstart.setLevel _ _

theorem FormParts.resetUart {s : State} (h : FormParts s) : FormParts (resetUart s) :=
  have hclear : FormParts (s.onUart fun _ => Uart.resetValue) := { h with uart := uartForm_resetValue _, retry := rfl }
  hclear.sendUart

theorem FormParts.resetUnit {s : State} (h : FormParts s) (u : UnitId) : FormParts (resetUnit u s) := by
  cases u with
  | ir => exact h.resetRouter
  | ccu => exact h.resetClock
  | stm => exact h.resetTimer
  | uart => exact h.resetUart

theorem FormParts.fireAlarm {s : State} (h : FormParts s) (a : Alarm) : FormParts (fireAlarm a s) :=
  h.congr (by simp) (by simp [Machine.fireAlarm]) (by simp) (by simp) (by simp) (by simp)

theorem FormParts.receive {s : State} (h : FormParts s) (bytes : List Byte) : FormParts (receive bytes s) :=
  have hpush : FormParts (s.onUart fun _ => (Machine.pushBurst bytes s.uart).1) :=
    { h with uart := h.uart.pushBurst bytes, retry := retryAgrees_pushBurst bytes h.retry }
  have hreport : ∀ ds, FormParts ((s.onUart fun _ => (Machine.pushBurst bytes s.uart).1).report ds) := fun _ =>
    hpush.congr rfl rfl rfl rfl rfl rfl
  (hreport _).sendUart

/-- The pending item, offered again with the retry disarmed, is delivered or pending with the retry armed (R388). -/
theorem FormParts.writable {s : State} {item : TxItem} (h : FormParts s) (ans : Answer) (hp : s.uart.txPend = some item) :
    FormParts (Machine.sendUart (transmit item ans (s.onUart fun u => { u with retryArmed := false }))) := by
  obtain ⟨htr, hi⟩ := h.uart.waits item hp
  obtain ⟨hu, hr⟩ := transmit_uartForm (s := s.onUart fun u => { u with retryArmed := false }) ans htr hi { h.uart with }
  apply FormParts.sendUart
  exact ⟨by simpa using h.clock, by simpa using h.counter, by simpa using hu, hr, by simpa using h.guest⟩

/-- A blob of a snapshot's form, with the retry of its pending item armed, is in the stored form (R473). -/
theorem FormParts.restore {s : State} (h : FormParts s) {b : Block} (hb : b.snapshotForm s.cfg = true) : FormParts (restore b s) := by
  obtain ⟨hc, ht0, hu, harm⟩ := (snapshotForm_iff s.cfg b).mp hb
  refine ⟨hc, ht0, { hu with }, ?_, h.guest⟩
  show (b.uart.retryArmed || b.uart.txPend.isSome) = b.uart.txPend.isSome
  cases hr : b.uart.retryArmed
  · rfl
  · exact (harm hr).symm

/-- Every operation that completes keeps the stored form. -/
theorem Completed.formParts {i : Instr} {s t : State} (hc : Completed s i t) (h : FormParts s) : FormParts t := by
  cases hc with
  | bus _ he r => exact ((he.formParts h).returning r).afterAccess _ _
  | reset u => exact (h.resetUnit u).returning _
  | resetAll => exact h.resetClock.resetTimer.resetUart.resetRouter.returning _
  | time delta =>
    have hlater : FormParts { s with now := s.now + delta } := { h with counter := h.counter.trans (Nat.le_add_right _ _) }
    exact hlater.returning _
  | alarm a => exact (h.fireAlarm a).returning _
  | rx bytes => exact (h.receive bytes).returning _
  | writable ans item _ _ hp => exact (h.writable ans hp).returning _
  | lock l =>
    have hlock : FormParts (s.onClock fun c => { c with pllLocked := l }) := { h with clock := { h.clock with } }
    exact hlock.returning _
  | level j l => exact (h.setLevel j l).returning _
  | snapshot => exact h.returning _
  | restore b hb => exact (h.restore hb).returning _

/-- Taking the next entry of the input stores to guest memory alone. -/
theorem FormParts.takeEntry {s : State} (h : FormParts s) (e : Entry) (rest : List Entry) : FormParts (takeEntry e rest s) :=
  { h with guest := Memory.wf_writeAll e.stores s.guest h.guest }

/-- A step that completes is an operation that completes from the state with the entry taken. -/
theorem completed_of_step {s t : State} (h : step s = .next t) : ∃ e rest i, Completed (takeEntry e rest s) i t := by
  unfold step at h
  split at h
  · cases h
  · next e rest _ =>
    split at h
    · cases h
    · next i _ => exact ⟨e, rest, i, completed_of_exec h⟩

/-- Settles O12: the form holds after the entry is taken, and every operation that completes keeps it. -/
theorem everyStepKeepsTheStoredForm : Obligations.EveryStepKeepsTheStoredForm := by
  unfold Obligations.EveryStepKeepsTheStoredForm
  intro s t hs h
  obtain ⟨e, rest, i, hc⟩ := completed_of_step h
  rw [storedFormHolds_iff] at hs ⊢
  exact hc.formParts (hs.takeEntry e rest)

/-! ### Time and lock input (O17) -/

/-- No bus access moves the lock input (R246). -/
theorem BusEffect.pllLocked {p : Params} {u : UnitId} {s s' : State} (he : BusEffect p u s s') :
    s'.clock.pllLocked = s.clock.pllLocked := by
  by_cases hu : u = .ccu
  · subst hu
    cases he with
    | read he => cases he; rfl
    | write he v =>
      cases he with
      | ignored | pllcon0 | pllcon1 | ccucon1 => rfl
      | ccucon0 => unfold writeCcucon0; split <;> rfl
    | undeclared => rfl
  · rw [he.onlyUnitChanged.clock hu]

theorem timeAfter_lockAfter_bus {i : Instr} {d : Dir} {sz : Size} {u : UnitId} {off : Offset} (hf : i.form = .bus d sz u off) (s : State) :
    timeAfter i s = s.now ∧ lockAfter i s = s.clock.pllLocked := by
  cases i <;> cases hf <;> exact ⟨rfl, rfl⟩

@[simp] theorem resetUnit_pllLocked (u : UnitId) (s : State) : (resetUnit u s).clock.pllLocked = s.clock.pllLocked := by
  cases u <;> simp [resetUnit, Clock.resetValue]

/-- The time and the lock input after an operation that completes. -/
theorem Completed.now_pllLocked {i : Instr} {s t : State} (hc : Completed s i t) :
    t.now = timeAfter i s ∧ t.clock.pllLocked = lockAfter i s := by
  cases hc with
  | bus hf he r =>
    obtain ⟨htime, hlock⟩ := timeAfter_lockAfter_bus hf s
    obtain ⟨hnow, _⟩ := he.now_guest
    rw [htime, hlock]
    simp [hnow, he.pllLocked]
  | reset u => simp [timeAfter, lockAfter]
  | resetAll => simp [timeAfter, lockAfter, Clock.resetValue]
  | time | lock | snapshot | restore => exact ⟨rfl, rfl⟩
  | alarm | rx | writable | level => simp [timeAfter, lockAfter]

/-- Settles O17: TIME, LOCK and RESTORE are the only operations whose effect holds the time or the lock input. -/
theorem onlyTheirEventsMoveTimeAndLock : Obligations.OnlyTheirEventsMoveTimeAndLock := by
  unfold Obligations.OnlyTheirEventsMoveTimeAndLock
  intro i s t h
  exact (completed_of_exec h).now_pllLocked

/-! ### Power-on (O6) -/

/-- At power-on every word of the UART's register file is 0, but for the parameter in ID (R42). -/
theorem uartWord_resetValue (p : Params) (r : UartReg) : uartWord p Uart.resetValue r = if r = .id then p.uartId else 0#32 := by
  cases r <;> rfl

/-- Settles O6: the values stand in the reset value of each unit. -/
theorem powerOnStateHoldsTheResetValues : Obligations.PowerOnStateHoldsTheResetValues := by
  unfold Obligations.PowerOnStateHoldsTheResetValues
  refine ⟨rfl, fun p => ?_⟩
  have hsources : ∀ i, (State.init p).router.source i = Source.cleared := Router.source_resetValue
  have hwords : ∀ r, uartWord p (State.init p).uart r = if r = .id then p.uartId else 0#32 := uartWord_resetValue p
  have hring : ∀ k, ringByte (State.init p).uart k = 0#8 := fun k => Memory.read_nil k.val
  exact ⟨hsources, rfl, rfl, rfl, rfl, hwords, hring, rfl, rfl, rfl, rfl, rfl, rfl, rfl, rfl⟩

end Sys2Proof.Machine
end

section
/-! O16: no operation reads the trace (R38). That something does not read the trace is said by replacing the trace: an effect commutes with
it, up to what it appends, and an operation completes or stops alike. Effects compose, so that the statement about every operation rests
on one about each effect. -/

namespace Sys2Proof.Machine

/-- `s` with the trace `d`. -/
def State.withDiag (d : List (List Diag)) (s : State) : State := { s with diag := d }

@[simp] theorem State.withDiag_timer (d : List (List Diag)) (s : State) : (s.withDiag d).timer = s.timer := rfl
@[simp] theorem State.withDiag_uart (d : List (List Diag)) (s : State) : (s.withDiag d).uart = s.uart := rfl
@[simp] theorem State.withDiag_now (d : List (List Diag)) (s : State) : (s.withDiag d).now = s.now := rfl
@[simp] theorem State.withDiag_cfg (d : List (List Diag)) (s : State) : (s.withDiag d).cfg = s.cfg := rfl

/-- The value does not depend on the trace. -/
def Unread {α : Type} (g : State → α) : Prop := ∀ s d, g (s.withDiag d) = g s

/-- The effect neither reads the trace nor appends to it. -/
def Silent (f : State → State) : Prop := ∀ s d, f (s.withDiag d) = (f s).withDiag d

/-- The effect appends to the trace what does not depend on the trace, and does the same whatever the trace holds. -/
def AppendsTrace (f : State → State) : Prop := ∀ s, ∃ new, ∀ d, f (s.withDiag d) = (f s).withDiag (d ++ new)

theorem AppendsTrace.silent {f : State → State} (h : Silent f) : AppendsTrace f := fun s =>
  ⟨[], fun d => by rw [h, List.append_nil]⟩

theorem Silent.comp {f g : State → State} (hg : Silent g) (hf : Silent f) : Silent fun s => g (f s) := fun s d => by
  show g (f (s.withDiag d)) = _
  rw [hf, hg]

/-- A choice that does not read the trace between two silent effects. -/
theorem Silent.choice {c : State → Bool} {f g : State → State} (hc : Unread c) (hf : Silent f) (hg : Silent g) :
    Silent fun s => if c s then f s else g s := fun s d => by
  cases h : c s
  · simpa [hc s _, h] using hg s d
  · simpa [hc s _, h] using hf s d

theorem AppendsTrace.comp {f g : State → State} (hg : AppendsTrace g) (hf : AppendsTrace f) :
    AppendsTrace fun s => g (f s) := fun s => by
  obtain ⟨newf, hnewf⟩ := hf s
  obtain ⟨newg, hnewg⟩ := hg (f s)
  refine ⟨newf ++ newg, fun d => ?_⟩
  show g (f (s.withDiag d)) = _
  rw [hnewf, hnewg, List.append_assoc]

/-- A choice that does not read the trace between two effects that do not. -/
theorem AppendsTrace.choice {c : State → Bool} {f g : State → State} (hc : Unread c) (hf : AppendsTrace f) (hg : AppendsTrace g) :
    AppendsTrace fun s => if c s then f s else g s := fun s => by
  cases h : c s
  · simpa [hc s _, h] using hg s
  · simpa [hc s _, h] using hf s

theorem AppendsTrace.returning {f : State → State} (hf : AppendsTrace f) (r : Result) : AppendsTrace fun s => (f s).returning r :=
  AppendsTrace.comp (g := State.returning r) (.silent fun _ _ => rfl) hf

/-- A report appends the set of what is reported, or nothing where that is empty (R38). -/
theorem report_appendsTrace (ds : List Diag) : AppendsTrace (State.report ds) := fun _ =>
  match ds with
  | [] => ⟨[], fun d => by rw [List.append_nil]; rfl⟩
  | x :: rest => ⟨[x :: rest], fun _ => rfl⟩

/-- A silent effect and the report of diagnostics that do not depend on the trace. -/
theorem AppendsTrace.report {f : State → State} {ds : State → List Diag} (hf : Silent f) (hds : Unread ds) :
    AppendsTrace fun s => (f s).report (ds s) := fun s => by
  obtain ⟨new, hnew⟩ := report_appendsTrace (ds s) (f s)
  refine ⟨new, fun d => ?_⟩
  show (f (s.withDiag d)).report (ds (s.withDiag d)) = _
  rw [hf, hds, hnew]

/-- A write rule that does not read the trace, on a word that does not depend on it. -/
theorem AppendsTrace.onWord {cur : State → Word} {eff : Word → State → State} (heff : ∀ v, AppendsTrace (eff v))
    (hcur : Unread cur) : AppendsTrace fun s => eff (cur s) s := fun s => by
  obtain ⟨new, hnew⟩ := heff (cur s) s
  refine ⟨new, fun d => ?_⟩
  show eff (cur (s.withDiag d)) _ = _
  rw [hcur, hnew]

theorem setLevel_silent (j : SourceIndex) (l : Bool) : Silent (setLevel j l) := fun s d => by
  rcases setLevel_cases j l s with ⟨hp, e⟩ | ⟨hp, e⟩
  · rw [e]; exact if_pos hp
  · rw [e]; exact if_neg hp

theorem sendTimer_silent : Silent sendTimer := fun s => setLevel_silent s.cfg.timerSrc (timerLevel s.timer) s

theorem sendUart_silent : Silent sendUart := fun s d => by
  simp only [sendUart, State.withDiag_cfg, State.withDiag_uart, setLevel_silent _ _ _ d]

theorem afterAccess_silent (u : UnitId) (dir : Dir) : Silent (afterAccess u dir) :=
  match u, dir with
  | .ir, _ | .ccu, _ | .stm, .read => fun _ _ => rfl
  | .stm, .write => sendTimer_silent
  | .uart, _ => sendUart_silent

theorem captureCap_appendsTrace : AppendsTrace captureCap :=
  .report (fun _ _ => rfl) fun _ _ => rfl

theorem captureCapsv_appendsTrace : AppendsTrace captureCapsv :=
  .report (fun _ _ => rfl) fun _ _ => rfl

theorem reportTap_appendsTrace : AppendsTrace reportTap :=
  .report (fun _ _ => rfl) fun _ _ => rfl

theorem writePllcon0_appendsTrace (v : Word) : AppendsTrace (writePllcon0 v) :=
  .report (fun _ _ => rfl) fun _ _ => rfl

theorem writeCcucon0_appendsTrace (v : Word) : AppendsTrace (writeCcucon0 v) :=
  .choice (fun _ _ => rfl) (.silent fun _ _ => rfl) (.report (fun _ _ => rfl) fun _ _ => rfl)

theorem arm_appendsTrace (c : Channel) : AppendsTrace (arm c) :=
  .choice (fun _ _ => rfl) (.report (fun _ _ => rfl) fun _ _ => rfl) (.silent fun _ _ => rfl)

theorem writeCompare_appendsTrace (c : Channel) (v : Word) : AppendsTrace (writeCompare c v) :=
  AppendsTrace.comp (g := arm c) (f := fun s => s.onTimer fun t => t.setChan c { t.chan c with word := v }) (arm_appendsTrace c)
    (.silent fun _ _ => rfl)

theorem writeIcr_appendsTrace (v : Word) : AppendsTrace (writeIcr v) :=
  have harm (c : Channel) : AppendsTrace fun s => arm c (cancelAlarm (s.onTimer fun t =>
      { t with cmp0 := { t.cmp0 with en := bit 0 v, os := bit 2 v }, cmp1 := { t.cmp1 with en := bit 4 v, os := bit 6 v } })) :=
    .comp (arm_appendsTrace c) (.silent fun _ _ => rfl)
  .choice (fun _ _ => rfl) (harm .ch0) (.choice (fun _ _ => rfl) (harm .ch1) (.silent fun _ _ => rfl))

theorem transmit_silent (item : TxItem) (ans : Answer) : Silent (transmit item ans) := by
  cases ans <;> exact fun _ _ => rfl

theorem sendItem_silent (item : TxItem) (ans : Answer) : Silent (sendItem item ans) := by
  have hbusy : Silent fun s => match s.cfg.txBusy with
      | .overwrite => s.onUart fun u => { u with txPend := some item }
      | .drop => s := fun s d => by
    cases hb : s.cfg.txBusy with
    | overwrite => simp only [State.withDiag_cfg, hb]; rfl
    | drop => simp only [State.withDiag_cfg, hb]
  exact .choice (fun _ _ => rfl) (fun _ _ => rfl) (.choice (fun _ _ => rfl) hbusy (transmit_silent item ans))

theorem writeBlkLen_silent (ans : Answer) (v : Word) : Silent (writeBlkLen ans v) := fun s d => by
  unfold writeBlkLen
  dsimp only
  split
  · rfl
  · exact sendItem_silent _ ans (s.onUart fun u => { u with blkLen := v }) d

theorem writeRxfifocon_silent (v : Word) : Silent (writeRxfifocon v) := by
  have hflush : Silent fun s => if bit 0 v then s.onUart flushRx else s :=
    .choice (fun _ _ => rfl) (fun _ _ => rfl) fun _ _ => rfl
  have hstore : Silent fun s => (if bit 0 v then s.onUart flushRx else s).onUart fun u => { u with rxfifocon := v &&& ~~~1#32 } :=
    Silent.comp (g := fun s => s.onUart fun u => { u with rxfifocon := v &&& ~~~1#32 }) (fun _ _ => rfl) hflush
  exact .choice (c := fun s => bit 1 v && s.cfg.transportPresent) (fun _ _ => rfl)
    (Silent.comp (g := State.emit .acceptInput) (fun _ _ => rfl) hstore) hstore

theorem fireAlarm_silent (a : Alarm) : Silent (fireAlarm a) :=
  sendTimer_silent.comp (f := fun s => (cancelAlarm s).onTimer fun t =>
    t.setChan a.ch { t.chan a.ch with ir := (t.chan a.ch).ir || (t.chan a.ch).en }) fun _ _ => rfl

theorem receive_appendsTrace (bytes : List Byte) : AppendsTrace (receive bytes) :=
  AppendsTrace.comp (g := sendUart) (.silent sendUart_silent)
    (.report (f := fun s => s.onUart fun _ => (pushBurst bytes s.uart).1) (fun _ _ => rfl) fun _ _ => rfl)

theorem resetTimer_silent : Silent resetTimer := fun s =>
  setLevel_silent s.cfg.timerSrc false (s.onTimer fun _ => Timer.resetValue s.now)

theorem resetUart_silent : Silent resetUart :=
  sendUart_silent.comp (f := fun s => s.onUart fun _ => Uart.resetValue) fun _ _ => rfl

theorem resetUnit_silent (u : UnitId) : Silent (resetUnit u) :=
  match u with
  | .ir | .ccu => fun _ _ => rfl
  | .stm => resetTimer_silent
  | .uart => resetUart_silent

theorem resetAll_silent : Silent resetAll :=
  have hclock : Silent resetClock := fun _ _ => rfl
  have hrouter : Silent resetRouter := fun _ _ => rfl
  hrouter.comp (resetUart_silent.comp (resetTimer_silent.comp hclock))

/-- From `s`, whatever its trace, the operation completes with the same state and appends the same, or stops for the same reason. -/
inductive TraceBlindAt (op : State → Outcome) (s : State) : Prop where
  | next (t : State) (new : List (List Diag)) (h : ∀ d, op (s.withDiag d) = .next (t.withDiag (d ++ new)))
  | refused (r : Refusal) (h : ∀ d, op (s.withDiag d) = .refused r)

/-- The operation does not read the trace, in any state. -/
def TraceBlind (op : State → Outcome) : Prop := ∀ s, TraceBlindAt op s

/-- An operation that completes, in `s` with any trace, by an effect that does not read the trace. -/
theorem TraceBlindAt.completes {op : State → Outcome} {f : State → State} {s : State} (hf : AppendsTrace f)
    (h : ∀ d, op (s.withDiag d) = .next (f (s.withDiag d))) : TraceBlindAt op s := by
  obtain ⟨new, hnew⟩ := hf s
  exact .next (f s) new fun d => by rw [h, hnew]

theorem TraceBlind.completes {f : State → State} (hf : AppendsTrace f) : TraceBlind fun s => .next (f s) := fun _ =>
  .completes hf fun _ => rfl

/-- What an operation is in `s` with any trace decides whether it reads the trace there. -/
theorem TraceBlind.congr {op op' : State → Outcome} {s : State} (h : TraceBlind op')
    (e : ∀ d, op (s.withDiag d) = op' (s.withDiag d)) : TraceBlindAt op s := by
  cases h s with
  | next t new hn => exact .next t new fun d => (e d).trans (hn d)
  | refused r hr => exact .refused r fun d => (e d).trans (hr d)

/-- An operation under a condition that does not read the trace. -/
theorem TraceBlind.guarded {c : State → Bool} {op op' : State → Outcome} (hc : Unread c) (h : TraceBlind op) (h' : TraceBlind op') :
    TraceBlind fun s => if c s then op s else op' s := fun s => by
  cases hcs : c s
  · exact h'.congr fun d => by simp [hc s d, hcs]
  · exact h.congr fun d => by simp [hc s d, hcs]

theorem refused_traceBlind (r : Refusal) : TraceBlind fun _ => .refused r := fun _ => .refused r fun _ => rfl

/-- Admission reads the parameters alone (R82). -/
theorem access_traceBlind {u : UnitId} {off : Nat} {sz : Size} {body : State → State} (hb : AppendsTrace body) :
    TraceBlind (access u off sz body) := fun s => by
  cases ha : admission (windowSize s.cfg u) off sz with
  | none => exact .completes hb fun d => access_admitted u off sz body (s.withDiag d) ha
  | some r => exact .refused r fun d => by simp [access, ha]

theorem readReg_traceBlind {u : UnitId} {w : Nat} {sz : Size} {lane : Lane} {cur : State → Word} {eff : State → State}
    (hcur : Unread cur) (heff : AppendsTrace eff) : TraceBlind (readReg u w sz lane cur eff) :=
  access_traceBlind (.comp (.silent (afterAccess_silent u .read)) fun s => by
    obtain ⟨new, hnew⟩ := heff s
    exact ⟨new, fun d => by rw [hnew, hcur]; rfl⟩)

/-- A write whose effect, on the word merged from the state's own, does not read the trace. -/
theorem written_traceBlind {u : UnitId} {off : Nat} {sz : Size} {f : State → State} (hf : AppendsTrace f) :
    TraceBlind (access u off sz fun s => afterAccess u .write ((f s).returning .nothing)) :=
  access_traceBlind (.comp (.silent (afterAccess_silent u .write)) (hf.returning _))

theorem readUndeclared_traceBlind (u : UnitId) (sz : Size) (off : Offset) : TraceBlind (readUndeclared u sz off) :=
  access_traceBlind (.comp (.silent (afterAccess_silent u .read)) ((report_appendsTrace _).returning _))

theorem writeUndeclared_traceBlind (u : UnitId) (sz : Size) (off : Offset) : TraceBlind (writeUndeclared u sz off) :=
  access_traceBlind (.comp (.silent (afterAccess_silent u .write)) ((report_appendsTrace _).returning _))

theorem execRdUartUndeclared_traceBlind (sz : Size) (off : Offset) : TraceBlind (execRdUartUndeclared sz off) := fun s => by
  have hread (cur : State → Word) (hcur : Unread cur) : TraceBlind (readReg .uart (wordOffset off) sz (laneOf off) cur id) :=
    readReg_traceBlind hcur (.silent fun _ _ => rfl)
  cases hb : blkRegAt s.cfg off with
  | none => exact (readUndeclared_traceBlind .uart sz off).congr fun d => by simp [execRdUartUndeclared, hb]
  | some reg =>
    cases reg with
    | addr => exact (hread (fun s => s.uart.blkAddr) fun _ _ => rfl).congr fun d => by simp [execRdUartUndeclared, hb]
    | len => exact (hread (fun s => s.uart.blkLen) fun _ _ => rfl).congr fun d => by simp [execRdUartUndeclared, hb]

theorem execWrUartUndeclared_traceBlind (sz : Size) (off : Offset) (data : Word) (ans : Answer) :
    TraceBlind (execWrUartUndeclared sz off data ans) := fun s => by
  cases hb : blkRegAt s.cfg off with
  | none => exact (writeUndeclared_traceBlind .uart sz off).congr fun d => by simp [execWrUartUndeclared, hb]
  | some reg =>
    cases reg with
    | addr =>
      have haddr : TraceBlind (writeReg .uart (wordOffset off) sz (laneOf off) data (fun s => s.uart.blkAddr)
          fun v s => s.onUart fun u => { u with blkAddr := v }) := written_traceBlind (.silent fun _ _ => rfl)
      exact haddr.congr fun d => by simp [execWrUartUndeclared, hb]
    | len =>
      have hlen : TraceBlind (writeReg .uart (wordOffset off) sz (laneOf off) data (fun s => s.uart.blkLen) (writeBlkLen ans)) :=
        written_traceBlind (.onWord (fun v => .silent (writeBlkLen_silent ans v)) fun _ _ => rfl)
      exact hlen.congr fun d => by simp [execWrUartUndeclared, hb]

theorem execEvAlarm_traceBlind : TraceBlind execEvAlarm := fun s => by
  cases ha : s.timer.alarm with
  | none => exact (refused_traceBlind .alarmNotArmed).congr fun d => by simp [execEvAlarm, ha]
  | some a =>
    by_cases hdue : a.deadline ≤ s.now
    · exact .completes (.returning (.silent (fireAlarm_silent a)) .nothing) fun d => by simp [execEvAlarm, ha, hdue]
    · exact .refused .alarmNotDue fun d => by simp [execEvAlarm, ha, hdue]

theorem execEvRx_traceBlind (bytes : List Byte) : TraceBlind (execEvRx bytes) :=
  .guarded (fun _ _ => rfl) (.completes (.returning (receive_appendsTrace bytes) _)) (refused_traceBlind _)

theorem execEvWritable_traceBlind (ans : Answer) : TraceBlind (execEvWritable ans) := by
  refine .guarded (fun _ _ => rfl) (fun s => ?_) (refused_traceBlind _)
  have hoffer (item : TxItem) : Silent fun s => sendUart (transmit item ans (s.onUart fun u => { u with retryArmed := false })) :=
    sendUart_silent.comp ((transmit_silent item ans).comp fun _ _ => rfl)
  cases hr : s.uart.retryArmed with
  | false => exact .refused .noRetryPending fun d => by simp [hr]
  | true =>
    cases hp : s.uart.txPend with
    | none => exact .refused .noRetryPending fun d => by simp [hp]
    | some item => exact .completes (.returning (.silent (hoffer item)) .nothing) fun d => by simp [hr, hp]

theorem execEvLevel_traceBlind (j : SourceIndex) (l : Bool) : TraceBlind (execEvLevel j l) :=
  .guarded (fun _ _ => rfl) (refused_traceBlind _) (.completes (.returning (.silent (setLevel_silent j l)) _))

theorem execEvRestore_traceBlind (blob : Block) : TraceBlind (execEvRestore blob) :=
  .guarded (fun _ _ => rfl) (.completes (.silent fun _ _ => rfl)) (refused_traceBlind _)

/-- No operation reads the trace: the rows of the opcode table, by what each does to the trace. -/
theorem exec_traceBlind (i : Instr) : TraceBlind (exec i) := by
  cases i
  case rdIrSrc | rdCcuPllstat | rdCcuPllcon0 | rdCcuPllcon1 | rdCcuCcucon0 | rdCcuCcucon1 | rdStmClc | rdStmId | rdStmCap |
      rdStmCmp0 | rdStmCmp1 | rdStmCmcon | rdStmIcr | rdStmIscr | rdStmCapsv | rdStmOcs | rdStmKrstclr | rdStmKrst1 | rdStmKrst0 |
      rdStmAccen1 | rdStmAccen0 | rdUartClc | rdUartIocr | rdUartId | rdUartTxfifocon | rdUartRxfifocon | rdUartBitcon |
      rdUartFramecon | rdUartDatcon | rdUartBrg | rdUartBrd | rdUartLincon | rdUartLinbtimer | rdUartLinhtimer | rdUartFlags |
      rdUartFlagsset | rdUartFlagsclear | rdUartFlagsenable | rdUartTxdata | rdUartCsr | rdUartRxdatad | rdUartOcs | rdUartKrstclr
      | rdUartKrst1 | rdUartKrst0 | rdUartAccen1 | rdUartAccen0 | rdUartRxdata =>
    exact readReg_traceBlind (fun _ _ => rfl) (.silent fun _ _ => rfl)
  case rdStmTim0 | rdStmTim1 | rdStmTim2 | rdStmTim3 | rdStmTim4 | rdStmTim5 =>
    exact readReg_traceBlind (fun _ _ => rfl) captureCap_appendsTrace
  case rdStmTim0sv => exact readReg_traceBlind (fun _ _ => rfl) captureCapsv_appendsTrace
  case rdStmTim6 => exact readReg_traceBlind (fun _ _ => rfl) reportTap_appendsTrace
  case wrCcuPllstat | wrStmId | wrStmTim0 | wrStmTim1 | wrStmTim2 | wrStmTim3 | wrStmTim4 | wrStmTim5 | wrStmTim6 | wrStmCap |
      wrStmTim0sv | wrStmCapsv | wrUartId | wrUartFlags | wrUartRxdata | wrUartRxdatad | wrCcuPllcon1 | wrCcuCcucon1 | wrStmClc |
      wrStmCmcon | wrStmOcs | wrStmKrstclr | wrStmKrst1 | wrStmKrst0 | wrStmAccen1 | wrStmAccen0 | wrUartClc | wrUartIocr |
      wrUartTxfifocon | wrUartBitcon | wrUartFramecon | wrUartDatcon | wrUartBrg | wrUartBrd | wrUartLincon | wrUartLinbtimer |
      wrUartLinhtimer | wrUartFlagsset | wrUartFlagsclear | wrUartFlagsenable | wrUartCsr | wrUartOcs | wrUartKrstclr |
      wrUartKrst1 | wrUartKrst0 | wrUartAccen1 | wrUartAccen0 | wrStmIscr | wrIrSrc =>
    exact written_traceBlind (.silent fun _ _ => rfl)
  case wrCcuPllcon0 => exact written_traceBlind (.onWord writePllcon0_appendsTrace fun _ _ => rfl)
  case wrCcuCcucon0 => exact written_traceBlind (.onWord writeCcucon0_appendsTrace fun _ _ => rfl)
  case wrStmIcr => exact written_traceBlind (.onWord writeIcr_appendsTrace fun _ _ => rfl)
  case wrStmCmp0 | wrStmCmp1 => exact written_traceBlind (.onWord (writeCompare_appendsTrace _) fun _ _ => rfl)
  case wrUartRxfifocon => exact written_traceBlind (.onWord (fun v => .silent (writeRxfifocon_silent v)) fun _ _ => rfl)
  case wrUartTxdata => exact written_traceBlind (.silent (sendItem_silent _ _))
  case rdIrUndeclared | rdCcuUndeclared | rdStmUndeclared => exact readUndeclared_traceBlind _ _ _
  case wrIrUndeclared | wrCcuUndeclared | wrStmUndeclared => exact writeUndeclared_traceBlind _ _ _
  case rdUartUndeclared => exact execRdUartUndeclared_traceBlind _ _
  case wrUartUndeclared => exact execWrUartUndeclared_traceBlind _ _ _ _
  case evReset => exact .completes (.returning (.silent (resetUnit_silent _)) _)
  case evResetAll => exact .completes (.returning (.silent resetAll_silent) _)
  case evTime | evLock | evSnapshot => exact .completes (.silent fun _ _ => rfl)
  case evAlarm => exact execEvAlarm_traceBlind
  case evRx => exact execEvRx_traceBlind _
  case evWritable => exact execEvWritable_traceBlind _
  case evLevel => exact execEvLevel_traceBlind _ _
  case evRestore => exact execEvRestore_traceBlind _

/-- Settles O16: what the operation does with any trace, read at the trace it has. -/
theorem theTraceIsAppendedToAndNeverRead : Obligations.TheTraceIsAppendedToAndNeverRead := by
  unfold Obligations.TheTraceIsAppendedToAndNeverRead
  refine ⟨fun i s t h => ?_, fun i s r h d => ?_⟩
  · cases exec_traceBlind i s with
    | next t' new hn =>
      obtain rfl : t'.withDiag (s.diag ++ new) = t := by simpa using (hn s.diag).symm.trans h
      exact ⟨new, rfl, hn⟩
    | refused r hr => exact nomatch (hr s.diag).symm.trans h
  · cases exec_traceBlind i s with
    | next t' new hn => exact nomatch (hn s.diag).symm.trans h
    | refused r' hr =>
      obtain rfl : r' = r := by simpa using (hr s.diag).symm.trans h
      exact hr d

end Sys2Proof.Machine
end

section
/-! O29, O14, O15 and O28: the byte lanes of narrow accesses, admission, what no operation writes, and undeclared offsets. Declared or not,
every bus access is the one access algorithm at its own offset (R82 to R88), so each statement is about that algorithm alone. -/

namespace Sys2Proof.Machine

/-! ### Byte lanes (O29) -/

theorem laneMask_toNat (sz : Size) : (laneMask sz).toNat = 2 ^ (8 * sizeBytes sz) - 1 := by
  cases sz <;> rfl

/-- A read keeps as many low bits of the shifted word as the access is wide (R87). -/
theorem selectLanes_toNat (full : Word) (lane : Lane) (sz : Size) :
    (selectLanes full lane sz).toNat = full.toNat / 2 ^ (8 * lane.val) % 2 ^ (8 * sizeBytes sz) := by
  rw [selectLanes, BitVec.toNat_and, laneMask_toNat, Nat.and_two_pow_sub_one_eq_mod, BitVec.toNat_ushiftRight,
    Nat.shiftRight_eq_div_pow]

/-- A merged word, byte by byte: the data's bytes in the covered lanes, the current word's elsewhere (R85). -/
theorem mergeLanes_extractByte (cur d : Word) (lane : Lane) (sz : Size) (k : Nat) (hk : k < 4) :
    (mergeLanes cur d lane sz).extractLsb' (8 * k) 8 =
      if lane.val ≤ k ∧ k < lane.val + sizeBytes sz then d.extractLsb' (8 * (k - lane.val)) 8 else cur.extractLsb' (8 * k) 8 := by
  apply BitVec.eq_of_getLsbD_eq
  intro j hj
  rw [BitVec.getLsbD_extractLsb', mergeLanes_getLsbD _ _ _ _ _ (by omega)]
  by_cases hcov : lane.val ≤ k ∧ k < lane.val + sizeBytes sz
  · have hbit : 8 * k + j - 8 * lane.val = 8 * (k - lane.val) + j := by omega
    rw [if_pos hcov, if_pos (by omega), hbit, BitVec.getLsbD_extractLsb']
  · rw [if_neg hcov, if_neg (by omega), BitVec.getLsbD_extractLsb']

/-- Settles O29: the lanes a read selects, and the merged word byte by byte. -/
theorem narrowAccessesSelectAndMergeByteLanes : Obligations.NarrowAccessesSelectAndMergeByteLanes := by
  unfold Obligations.NarrowAccessesSelectAndMergeByteLanes
  exact ⟨selectLanes_toNat, mergeLanes_extractByte⟩

/-! ### Admission (O14) -/

theorem offsetOf_laneOf {off : Offset} {w : Nat} (hw : wordOffset off = w) : offsetOf w (laneOf off) = off := by
  have hsplit := wordOffset_laneOf off
  have hoff := off.isLt
  ext
  simp only [offsetOf, Fin.ofNat_eq_cast, Fin.val_natCast]
  omega

/-- A byte offset below 0x400 is a lane of the source word it falls in (R120). -/
theorem offsetOf_source {off : Offset} (h : irUndeclared off = false) :
    offsetOf (4 * (Fin.ofNat 256 (off.val / 4)).val) (laneOf off) = off := by
  apply offsetOf_laneOf
  simp only [irUndeclared, decide_eq_false_iff_not] at h
  simp only [wordOffset, Fin.ofNat_eq_cast, Fin.val_natCast]
  omega

theorem decodeIr_form (d : Dir) (sz : Size) (off : Offset) (a : Operand) : (decodeIr d sz off a).form = .bus d sz .ir off := by
  unfold decodeIr
  split
  · cases d <;> rfl
  · next h =>
    have hoff := offsetOf_source (Bool.eq_false_of_not_eq_true h)
    cases d <;> exact congrArg (Form.bus _ sz .ir) hoff

theorem decodeCcuRead_form (sz : Size) (off : Offset) : (decodeCcuRead sz off).form = .bus .read sz .ccu off := by
  unfold decodeCcuRead
  split <;> simp [Instr.form, offsetOf_laneOf, *]

theorem decodeCcuWrite_form (sz : Size) (off : Offset) (a : Operand) : (decodeCcuWrite sz off a).form = .bus .write sz .ccu off := by
  unfold decodeCcuWrite
  split <;> simp [Instr.form, offsetOf_laneOf, *]

theorem decodeStmRead_form (sz : Size) (off : Offset) : (decodeStmRead sz off).form = .bus .read sz .stm off := by
  unfold decodeStmRead
  split <;> simp [Instr.form, offsetOf_laneOf, *]

theorem decodeStmWrite_form (sz : Size) (off : Offset) (a : Operand) : (decodeStmWrite sz off a).form = .bus .write sz .stm off := by
  unfold decodeStmWrite
  split <;> simp [Instr.form, offsetOf_laneOf, *]

theorem decodeUartRead_form (sz : Size) (off : Offset) : (decodeUartRead sz off).form = .bus .read sz .uart off := by
  unfold decodeUartRead
  split <;> simp [Instr.form, offsetOf_laneOf, *]

theorem decodeUartWrite_form (sz : Size) (off : Offset) (a : Operand) :
    (decodeUartWrite sz off a).form = .bus .write sz .uart off := by
  unfold decodeUartWrite
  split <;> simp [Instr.form, offsetOf_laneOf, *]

/-- The operation of a bus descriptor has that descriptor's fields. -/
theorem decodeBus_form (d : Dir) (sz : Size) (u : UnitId) (off : Offset) (a : Operand) :
    (decodeBus d sz u off a).form = .bus d sz u off := by
  cases u with
  | ir => exact decodeIr_form d sz off a
  | ccu => cases d; exacts [decodeCcuRead_form sz off, decodeCcuWrite_form sz off a]
  | stm => cases d; exacts [decodeStmRead_form sz off, decodeStmWrite_form sz off a]
  | uart => cases d; exacts [decodeUartRead_form sz off, decodeUartWrite_form sz off a]

/-- Declared or not, a bus access is the access algorithm of R82 at its own offset. -/
theorem BusMeaning.eq_access {d : Dir} {sz : Size} {u : UnitId} {off : Offset} {s : State} {o : Outcome}
    (h : BusMeaning d sz u off s o) : ∃ body, o = access u off.val sz body s := by
  cases h with
  | read w lane cur eff hd ho he => rw [← ho]; exact ⟨_, rfl⟩
  | write w lane data cur eff hd ho he => rw [← ho]; exact ⟨_, rfl⟩
  | undeclaredRead hd => exact ⟨_, rfl⟩
  | undeclaredWrite hd => exact ⟨_, rfl⟩

/-- An access completes where R82 admits it and is refused elsewhere. -/
theorem access_admitted_or_refused (u : UnitId) (off : Offset) (sz : Size) (body : State → State) (s : State) :
    (Admitted s.cfg u off sz → ∃ t, access u off.val sz body s = .next t) ∧
      (¬ Admitted s.cfg u off sz →
        access u off.val sz body s = .refused .misaligned ∨ access u off.val sz body s = .refused .outsideWindow) := by
  refine ⟨fun h => ⟨body s, access_admitted _ _ _ _ _ ((admission_eq_none_iff _ _ _).mpr h)⟩, fun h => ?_⟩
  rcases access_cases u off.val sz body s with ⟨hadm, _⟩ | hrefused
  · exact absurd ((admission_eq_none_iff _ _ _).mp hadm) h
  · exact hrefused

/-- Settles O14: the operation decoded from the descriptor is the access algorithm at the descriptor's offset. -/
theorem admittedAccessesCompleteOthersAreRefused : Obligations.AdmittedAccessesCompleteOthersAreRefused := by
  unfold Obligations.AdmittedAccessesCompleteOthersAreRefused
  intro s e rest d sz u off hin hparse
  have hdec : decode e.op = .ok (decodeBus d sz u off e.op.args) := by simp [decode, hparse, decodeForm]
  obtain ⟨body, hbody⟩ := (exec_bus _ (takeEntry e rest s) (decodeBus_form d sz u off e.op.args)).eq_access
  rw [step_of_decode hin hdec, hbody]
  exact access_admitted_or_refused u off sz body (takeEntry e rest s)

/-! ### What no operation writes (O15) -/

theorem ReadEffect.input {u : UnitId} {eff : State → State} (he : ReadEffect u eff) (s : State) : (eff s).input = s.input := by
  cases he <;> simp

theorem WriteEffect.input {p : Params} {u : UnitId} {eff : Word → State → State} (he : WriteEffect p u eff) (v : Word) (s : State) :
    (eff v s).input = s.input := by
  cases he <;> simp [ignoreWrite]

theorem BusEffect.input {p : Params} {u : UnitId} {s s' : State} (he : BusEffect p u s s') : s'.input = s.input := by
  cases he with
  | read he => exact he.input s
  | write he v => exact he.input v s
  | undeclared ds => simp

/-- An operation that completes leaves guest memory, the parameters and the operations still to be taken alone. -/
theorem Completed.guest_cfg_input {i : Instr} {s t : State} (hc : Completed s i t) :
    t.guest = s.guest ∧ t.cfg = s.cfg ∧ t.input = s.input := by
  cases hc with
  | bus hf he r =>
    obtain ⟨_, hguest⟩ := he.now_guest
    simp [hguest, he.onlyUnitChanged.cfg, he.input]
  | time | lock | snapshot | restore => exact ⟨rfl, rfl, rfl⟩
  | reset | resetAll | alarm | rx | writable | level => simp

/-- Settles O15: by what each operation that completes leaves. -/
theorem noOperationWritesGuestMemory : Obligations.NoOperationWritesGuestMemory := by
  unfold Obligations.NoOperationWritesGuestMemory
  intro i s t h
  exact (completed_of_exec h).guest_cfg_input

/-! ### Undeclared offsets (O28) -/

/-- The after-access actions read nothing but the router, the parameters, the timer and the UART. -/
theorem afterAccess_router_congr {s s' : State} (u : UnitId) (d : Dir) (hrouter : s.router = s'.router) (hcfg : s.cfg = s'.cfg)
    (htimer : s.timer = s'.timer) (huart : s.uart = s'.uart) : (afterAccess u d s).router = (afterAccess u d s').router := by
  cases u with
  | ir | ccu => exact hrouter
  | stm =>
    cases d with
    | read => exact hrouter
    | write =>
      simp only [afterAccess_stm_write, sendTimer, hcfg, htimer]
      exact setLevel_router_congr _ _ hrouter hcfg
  | uart => exact sendUart_router_congr hrouter hcfg huart

/-- An admitted access that only reports and returns `r` completes with that result, the sends of its unit, and nothing else. -/
theorem access_undeclared {u : UnitId} {off : Offset} {sz : Size} {s : State} (d : Dir) (r : Result) (h : Admitted s.cfg u off sz) :
    ∃ t, access u off.val sz (fun s => afterAccess u d ((s.report [.unknownRegister u off d]).returning r)) s = .next t ∧
      t.result = r ∧ t.router = (afterAccess u d s).router ∧ UndeclaredAccess u off d s t := by
  refine ⟨_, access_admitted _ _ _ _ _ ((admission_eq_none_iff _ _ _).mpr h), by simp,
    afterAccess_router_congr u d rfl rfl rfl rfl, ?_⟩
  have hreport : Reports s (afterAccess u d ((s.report [.unknownRegister u off d]).returning r)) [.unknownRegister u off d] :=
    reports_congr (reports_report s _) rfl (by simp)
  exact ⟨by simp, by simp, by simp, by simp, ⟨by simp, by simp, by simp, by simp⟩, hreport⟩

/-- Off the offsets of a present block-transfer pair there is no register of it (D42). -/
theorem blkRegAt_eq_none {p : Params} {off : Offset}
    (h : p.blkPresent = true → wordOffset off ≠ p.blkAddrOff ∧ wordOffset off ≠ p.blkLenOff) : blkRegAt p off = none := by
  unfold blkRegAt
  split
  · next hp =>
    obtain ⟨haddr, hlen⟩ := h hp
    rw [if_neg haddr, if_neg hlen]
  · rfl

/-- Settles O28: each undeclared row is the one undeclared access, with the sends of its unit. -/
theorem undeclaredOffsetsReadZeroAndAreReported : Obligations.UndeclaredOffsetsReadZeroAndAreReported := by
  unfold Obligations.UndeclaredOffsetsReadZeroAndAreReported
  intro s sz off data ans
  have hread (u : UnitId) (h : Admitted s.cfg u off sz) := access_undeclared .read (.data 0#32) h
  have hwrite (u : UnitId) (h : Admitted s.cfg u off sz) := access_undeclared .write .nothing h
  refine ⟨fun _ h => ⟨hread .ir h, hwrite .ir h⟩, fun _ h => ⟨hread .ccu h, hwrite .ccu h⟩,
    fun _ h => ⟨hread .stm h, hwrite .stm h⟩, fun _ h hblk => ?_⟩
  have hnone := blkRegAt_eq_none hblk
  have hexecRead : exec (.rdUartUndeclared sz off) s = readUndeclared .uart sz off s := by
    show execRdUartUndeclared sz off s = _
    simp [execRdUartUndeclared, hnone]
  have hexecWrite : exec (.wrUartUndeclared sz off data ans) s = writeUndeclared .uart sz off s := by
    show execWrUartUndeclared sz off data ans s = _
    simp [execWrUartUndeclared, hnone]
  rw [hexecRead, hexecWrite]
  exact ⟨hread .uart h, hwrite .uart h⟩

end Sys2Proof.Machine
end

section
/-! O20: reads and their side effects (R90). Every bus read is the access algorithm with one of the effects of `readEffect`; what it
returns depends on nothing that effect changes, RXDATA's apart, so that the read made again returns the same. -/

namespace Sys2Proof.Machine

/-- What the read `i` does to the state beside its result and the level sends (R84, R90). -/
def readEffect (i : Instr) (s : State) : State :=
  match i with
  | .rdStmTim0 _ _ | .rdStmTim1 _ _ | .rdStmTim2 _ _ | .rdStmTim3 _ _ | .rdStmTim4 _ _ | .rdStmTim5 _ _ => captureCap s
  | .rdStmTim6 _ _ => reportTap s
  | .rdStmTim0sv _ _ => captureCapsv s
  | .rdUartRxdata _ _ => advanceRx s
  | .rdIrUndeclared _ off => s.report [.unknownRegister .ir off .read]
  | .rdCcuUndeclared _ off => s.report [.unknownRegister .ccu off .read]
  | .rdStmUndeclared _ off => s.report [.unknownRegister .stm off .read]
  | .rdUartUndeclared _ off =>
    match blkRegAt s.cfg off with
    | some _ => s
    | none => s.report [.unknownRegister .uart off .read]
  | _ => s

/-- From `s` to `t` nothing changed that no read changes: the captures of the timer and the read cursor of the UART alone may differ. -/
structure ReadFrame (s t : State) : Prop where
  router : t.router = s.router
  clock : t.clock = s.clock
  now : t.now = s.now
  cfg : t.cfg = s.cfg
  emitted : t.emitted = s.emitted
  guest : t.guest = s.guest
  timer : t.timer = { s.timer with cap := t.timer.cap, capsv := t.timer.capsv }
  uart : t.uart = { s.uart with rd := t.uart.rd }

theorem ReadFrame.refl (s : State) : ReadFrame s s := by
  constructor <;> rfl

theorem readFrame_report (ds : List Diag) (s : State) : ReadFrame s (s.report ds) := by
  constructor <;> rfl

theorem readFrame_captureCap (s : State) : ReadFrame s (captureCap s) := by
  constructor <;> rfl

theorem readFrame_captureCapsv (s : State) : ReadFrame s (captureCapsv s) := by
  constructor <;> rfl

theorem advanceRx_uart (s : State) : (advanceRx s).uart = { s.uart with rd := (advanceRx s).uart.rd } := by
  simp only [advanceRx, State.onUart_uart]
  split <;> rfl

theorem readFrame_advanceRx (s : State) : ReadFrame s (advanceRx s) := by
  constructor
  case uart => exact advanceRx_uart s
  all_goals rfl

/-- The read of an undeclared UART offset reports, unless a block-transfer register is there (R84, R392, R393). -/
theorem readEffect_rdUartUndeclared (sz : Size) (off : Offset) (s : State) :
    readEffect (.rdUartUndeclared sz off) s = s ∨
      readEffect (.rdUartUndeclared sz off) s = s.report [.unknownRegister .uart off .read] := by
  simp only [readEffect]
  split
  · exact .inl rfl
  · exact .inr rfl

theorem readEffect_frame (i : Instr) (s : State) : ReadFrame s (readEffect i s) := by
  cases i
  case rdStmTim0 | rdStmTim1 | rdStmTim2 | rdStmTim3 | rdStmTim4 | rdStmTim5 => exact readFrame_captureCap s
  case rdStmTim0sv => exact readFrame_captureCapsv s
  case rdStmTim6 => exact readFrame_report _ s
  case rdIrUndeclared | rdCcuUndeclared | rdStmUndeclared => exact readFrame_report [.unknownRegister _ _ .read] s
  case rdUartRxdata => exact readFrame_advanceRx s
  case rdUartUndeclared sz off =>
    rcases readEffect_rdUartUndeclared sz off s with e | e <;> rw [e]
    · exact .refl s
    · exact readFrame_report _ s
  all_goals exact .refl s

/-- Only the taps TIM0 to TIM5 capture into CAP (R275 to R285). -/
theorem readEffect_cap {i : Instr} (h : ∀ z l, i ≠ .rdStmTim0 z l ∧ i ≠ .rdStmTim1 z l ∧ i ≠ .rdStmTim2 z l ∧ i ≠ .rdStmTim3 z l ∧
    i ≠ .rdStmTim4 z l ∧ i ≠ .rdStmTim5 z l) (s : State) : (readEffect i s).timer.cap = s.timer.cap := by
  cases i
  case rdStmTim0 | rdStmTim1 | rdStmTim2 | rdStmTim3 | rdStmTim4 | rdStmTim5 => simp at h
  case rdUartUndeclared sz off => rcases readEffect_rdUartUndeclared sz off s with e | e <;> simp [e]
  all_goals rfl

/-- Only TIM0SV captures into CAPSV (R301). -/
theorem readEffect_capsv {i : Instr} (h : ∀ z l, i ≠ .rdStmTim0sv z l) (s : State) :
    (readEffect i s).timer.capsv = s.timer.capsv := by
  cases i
  case rdStmTim0sv => simp at h
  case rdUartUndeclared sz off => rcases readEffect_rdUartUndeclared sz off s with e | e <;> simp [e]
  all_goals rfl

/-- Only RXDATA moves the read cursor (R369). -/
theorem readEffect_rd {i : Instr} (h : ∀ z l, i ≠ .rdUartRxdata z l) (s : State) : (readEffect i s).uart.rd = s.uart.rd := by
  cases i
  case rdUartRxdata => simp at h
  case rdUartUndeclared sz off => rcases readEffect_rdUartUndeclared sz off s with e | e <;> simp [e]
  all_goals rfl

/-- A read other than RXDATA leaves the UART alone. -/
theorem readEffect_uart {i : Instr} (h : ∀ z l, i ≠ .rdUartRxdata z l) (s : State) : (readEffect i s).uart = s.uart := by
  rw [(readEffect_frame i s).uart, readEffect_rd h]

/-- What the read `i` of unit `u` leaves where it returns `v` (R87, R88). -/
def afterRead (i : Instr) (u : UnitId) (v : Word) (s : State) : State :=
  afterAccess u .read ((readEffect i s).returning (.data v))

@[simp] theorem afterRead_result (i : Instr) (u : UnitId) (v : Word) (s : State) : (afterRead i u v s).result = .data v := by
  simp [afterRead]

@[simp] theorem afterRead_cfg (i : Instr) (u : UnitId) (v : Word) (s : State) : (afterRead i u v s).cfg = s.cfg := by
  simp [afterRead, (readEffect_frame i s).cfg]

@[simp] theorem afterRead_timer (i : Instr) (u : UnitId) (v : Word) (s : State) :
    (afterRead i u v s).timer = (readEffect i s).timer := by
  simp [afterRead]

@[simp] theorem afterRead_uart (i : Instr) (u : UnitId) (v : Word) (s : State) : (afterRead i u v s).uart = (readEffect i s).uart := by
  simp [afterRead]

/-- The level sends after a UART read reach the router alone; after any other read there are none (R88). -/
theorem afterRead_router {u : UnitId} (hu : u ≠ .uart) (i : Instr) (v : Word) (s : State) :
    (afterRead i u v s).router = s.router := by
  cases u with
  | ir | ccu | stm => exact (readEffect_frame i s).router
  | uart => exact absurd rfl hu

/-- The operation `i` is a read that returns `val`, and, RXDATA apart, does not itself change what `val` is. -/
structure Reads (i : Instr) (sz : Size) (u : UnitId) (off : Offset) (val : State → Word) : Prop where
  exec_eq : ∀ s, exec i s = access u off.val sz (fun s => afterRead i u (val s) s) s
  again : (∀ z l, i ≠ .rdUartRxdata z l) → ∀ s v, val (afterRead i u v s) = val s

theorem reads_declared {i : Instr} {u : UnitId} {w : Nat} {sz : Size} {lane : Lane} {cur : State → Word} (hw : w ≤ 4092)
    (hexec : ∀ s, exec i s = readReg u w sz lane cur (readEffect i) s)
    (hagain : (∀ z l, i ≠ .rdUartRxdata z l) → ∀ s v, cur (afterRead i u v s) = cur s) :
    Reads i sz u (offsetOf w lane) fun s => selectLanes (cur s) lane sz where
  exec_eq s := by rw [hexec, ← offsetOf_val w lane hw]; rfl
  again hi s v := by rw [hagain hi]

theorem reads_undeclared {i : Instr} {u : UnitId} {sz : Size} {off : Offset} (hexec : ∀ s, exec i s = readUndeclared u sz off s)
    (heff : ∀ s, readEffect i s = s.report [.unknownRegister u off .read]) : Reads i sz u off fun _ => 0#32 where
  exec_eq s := by rw [hexec]; unfold readUndeclared; simp only [afterRead, heff]
  again _ _ _ := rfl

theorem access_congr {u : UnitId} {off : Nat} {sz : Size} {body body' : State → State} {s : State} (h : body s = body' s) :
    access u off sz body s = access u off sz body' s := by
  unfold access
  rw [h]

/-- The word a read of an undeclared UART offset returns: a register of a present block-transfer pair, or 0 (R84, R392, R393). -/
def undeclaredUartValue (sz : Size) (off : Offset) (s : State) : Word :=
  match blkRegAt s.cfg off with
  | some .addr => selectLanes s.uart.blkAddr (laneOf off) sz
  | some .len => selectLanes s.uart.blkLen (laneOf off) sz
  | none => 0#32

theorem reads_rdUartUndeclared (sz : Size) (off : Offset) :
    Reads (.rdUartUndeclared sz off) sz .uart off (undeclaredUartValue sz off) where
  exec_eq s := by
    show execRdUartUndeclared sz off s = _
    cases hb : blkRegAt s.cfg off with
    | none =>
      simp only [execRdUartUndeclared, hb, readUndeclared]
      exact access_congr (by simp [afterRead, readEffect, undeclaredUartValue, hb])
    | some reg =>
      cases reg <;> simp only [execRdUartUndeclared, hb, readReg, wordOffset_laneOf] <;>
        exact access_congr (by simp [afterRead, readEffect, undeclaredUartValue, hb])
  again hi s v := by
    simp only [undeclaredUartValue, afterRead_cfg, afterRead_uart, readEffect_uart hi]

/-- Every bus read, row by row of the opcode table: what it returns, and that it can be made again. -/
theorem reads_of_form {i : Instr} {sz : Size} {u : UnitId} {off : Offset} (hf : i.form = .bus .read sz u off) :
    ∃ val, Reads i sz u off val := by
  cases i <;> cases hf
  case rdIrSrc => exact ⟨_, reads_declared (by omega) (fun _ => rfl) fun _ _ _ => rfl⟩
  case rdCcuPllstat | rdCcuPllcon0 | rdCcuPllcon1 | rdCcuCcucon0 | rdCcuCcucon1 | rdStmClc | rdStmId | rdStmTim0 | rdStmTim1 |
      rdStmTim2 | rdStmTim3 | rdStmTim4 | rdStmTim5 | rdStmTim6 | rdStmCap | rdStmCmp0 | rdStmCmp1 | rdStmCmcon | rdStmIcr | rdStmIscr |
      rdStmTim0sv | rdStmCapsv | rdStmOcs | rdStmKrstclr | rdStmKrst1 | rdStmKrst0 | rdStmAccen1 | rdStmAccen0 =>
    exact ⟨_, reads_declared (by decide) (fun _ => rfl) fun _ _ _ => rfl⟩
  case rdUartClc | rdUartIocr | rdUartId | rdUartTxfifocon | rdUartRxfifocon | rdUartBitcon | rdUartFramecon | rdUartDatcon | rdUartBrg |
      rdUartBrd | rdUartLincon | rdUartLinbtimer | rdUartLinhtimer | rdUartFlags | rdUartFlagsset |
      rdUartFlagsclear | rdUartFlagsenable | rdUartTxdata | rdUartRxdata | rdUartCsr | rdUartRxdatad | rdUartOcs | rdUartKrstclr |
      rdUartKrst1 | rdUartKrst0 | rdUartAccen1 | rdUartAccen0 =>
    exact ⟨_, reads_declared (by decide) (fun _ => rfl) fun hi s v => by
      simp only [afterRead_cfg, afterRead_uart, readEffect_uart hi]⟩
  case rdIrUndeclared | rdCcuUndeclared | rdStmUndeclared => exact ⟨_, reads_undeclared (fun _ => rfl) fun _ => rfl⟩
  case rdUartUndeclared => exact ⟨_, reads_rdUartUndeclared _ _⟩

theorem access_eq_next_admission {u : UnitId} {off : Nat} {sz : Size} {body : State → State} {s t : State}
    (h : access u off sz body s = .next t) : admission (windowSize s.cfg u) off sz = none := by
  rcases access_cases u off sz body s with ⟨hadm, _⟩ | e | e
  · exact hadm
  · exact nomatch e.symm.trans h
  · exact nomatch e.symm.trans h

/-- A read that completed completes again with the same value, RXDATA's apart. -/
theorem Reads.exec_again {i : Instr} {sz : Size} {u : UnitId} {off : Offset} {val : State → Word} (hr : Reads i sz u off val)
    (hi : ∀ z l, i ≠ .rdUartRxdata z l) {s : State} (hadm : admission (windowSize s.cfg u) off.val sz = none) (v : Word) :
    ∃ t, exec i (afterRead i u v s) = .next t ∧ t.result = .data (val s) := by
  refine ⟨_, (hr.exec_eq _).trans (access_admitted _ _ _ _ _ (by rwa [afterRead_cfg])), ?_⟩
  rw [afterRead_result, hr.again hi]

/-- Settles O20, by the frame of the read's effect and the read made again. -/
theorem readsHaveOnlyTheListedSideEffects : Obligations.ReadsHaveOnlyTheListedSideEffects := by
  unfold Obligations.ReadsHaveOnlyTheListedSideEffects
  intro i s t sz u off hf h
  obtain ⟨val, hr⟩ := reads_of_form hf
  rw [hr.exec_eq] at h
  have hadm := access_eq_next_admission h
  obtain rfl : t = afterRead i u (val s) s := access_eq_next _ _ _ _ _ _ h
  have hframe := readEffect_frame i s
  refine ⟨?_, ?_, ?_, ?_, ?_, ?_, fun hi => ?_, fun hi => ?_, fun hi => ?_, fun hu => ?_, fun hi => ?_⟩
  · simp [afterRead, hframe.clock]
  · simp [afterRead, hframe.now]
  · simp [afterRead, hframe.emitted]
  · simp [afterRead, hframe.guest]
  · simpa only [afterRead_timer] using hframe.timer
  · simpa only [afterRead_uart] using hframe.uart
  · rw [afterRead_timer, readEffect_cap hi]
  · rw [afterRead_timer, readEffect_capsv hi]
  · rw [afterRead_uart, readEffect_rd hi]
  · exact afterRead_router hu i _ s
  · rw [afterRead_result]
    exact hr.exec_again hi hadm (val s)

end Sys2Proof.Machine
end

section
/-! O1 to O4: decoder and encoder agree (R110 to R113). `Form` lies between the two: what `Form.parse` accepts is said once as the fields'
values, what `decodeForm` answers once as the operation whose form it is, and every statement is the two put together. -/

namespace Sys2Proof

/-! ### The codes of the fields -/

theorem Dir.ofCode_eq_iff {n : Nat} (hn : n < 2) (d : Dir) : Dir.ofCode n = d ↔ n = d.code := by
  interval_cases n <;> cases d <;> decide

theorem UnitId.ofCode_eq_iff {n : Nat} (hn : n < 4) (u : UnitId) : UnitId.ofCode n = u ↔ n = u.code := by
  interval_cases n <;> cases u <;> decide

theorem Size.ofCode_eq_some_iff (n : Nat) (sz : Size) : Size.ofCode n = some sz ↔ n = sz.code := by
  unfold Size.ofCode
  split <;> cases sz <;> simp_all [Size.code]

theorem Size.exists_code_eq_iff {n : Nat} (hn : n < 4) : (∃ sz : Size, n = sz.code) ↔ n ≠ 3 := by
  constructor
  · rintro ⟨sz, rfl⟩
    cases sz <;> decide
  · intro h
    have hcases : n = 0 ∨ n = 1 ∨ n = 2 := by omega
    rcases hcases with rfl | rfl | rfl
    exacts [⟨.byte, rfl⟩, ⟨.half, rfl⟩, ⟨.word, rfl⟩]

end Sys2Proof

namespace Sys2Proof.Machine

/-! ### The fields of a descriptor -/

theorem bits_lt (hi lo : Nat) (w : Word) : bits hi lo w < 2 ^ (hi + 1 - lo) := Nat.mod_lt _ (by positivity)

/-- The descriptors of the bus-access format, field by field (R111). -/
theorem parse_eq_bus_iff (w : Word) (d : Dir) (sz : Size) (u : UnitId) (off : Offset) :
    Form.parse w = .ok (.bus d sz u off) ↔
      bits 31 31 w = 0 ∧ bits 27 26 w = 0 ∧ bits 23 12 w = 0 ∧
        bits 30 30 w = d.code ∧ bits 29 28 w = sz.code ∧ bits 25 24 w = u.code ∧ bits 11 0 w = off.val := by
  constructor
  · intro h
    unfold Form.parse at h
    split at h
    case isFalse => cases h
    case isTrue h31 =>
      split at h
      case isTrue => cases h
      case isFalse hreserved =>
        push Not at hreserved
        obtain ⟨h26, h12⟩ := hreserved
        split at h
        case h_1 => cases h
        case h_2 hsz =>
          cases h
          exact ⟨h31, h26, h12, (Dir.ofCode_eq_iff (bits_lt ..) _).mp rfl, (Size.ofCode_eq_some_iff _ _).mp hsz,
            (UnitId.ofCode_eq_iff (bits_lt ..) _).mp rfl, (Nat.mod_eq_of_lt (bits_lt 11 0 w)).symm⟩
  · rintro ⟨h31, h26, h12, hd, hs, hu, ho⟩
    exact parse_of_bus_fields w d sz u off h31 h26 h12 hd hs hu ho

/-- The descriptors of the event format (R112). -/
theorem parse_eq_event_iff (w : Word) (code payload : Nat) :
    Form.parse w = .ok (.event code payload) ↔ bits 31 31 w = 1 ∧ bits 30 24 w = code ∧ bits 23 0 w = payload := by
  have htop : bits 31 31 w < 2 := bits_lt 31 31 w
  unfold Form.parse
  split
  case isTrue h31 =>
    have hne : ¬ bits 31 31 w = 1 := by omega
    simp only [hne, false_and, iff_false]
    split
    · simp
    · split <;> simp
  case isFalse h31 =>
    have h1 : bits 31 31 w = 1 := by omega
    simp [h1]

/-- Every bit of a descriptor that parses is a bit of one of its form's fields. -/
theorem toWord_of_parse {w : Word} {f : Form} (h : Form.parse w = .ok f) : f.toWord = w := by
  have hw := w.isLt
  apply BitVec.eq_of_toNat_eq
  cases f with
  | bus d sz u off =>
    obtain ⟨h31, h26, h12, hd, hs, hu, ho⟩ := (parse_eq_bus_iff ..).mp h
    simp only [Form.toWord, Form.number, BitVec.toNat_ofNat, ← hd, ← hs, ← hu, ← ho]
    simp only [bits] at h31 h26 h12 ⊢
    norm_num at *
    omega
  | event code payload =>
    obtain ⟨h31, hc, hp⟩ := (parse_eq_event_iff ..).mp h
    simp only [Form.toWord, Form.number, BitVec.toNat_ofNat, ← hc, ← hp]
    simp only [bits] at h31 ⊢
    norm_num at *
    omega

/-! ### The operation of a form -/

theorem decode_eq_ok_iff (o : Op) (i : Instr) :
    decode o = .ok i ↔ ∃ f, Form.parse o.desc = .ok f ∧ decodeForm f o.args = .ok i := by
  unfold decode
  split <;> simp [*]

theorem payloadBelow_eq_ok_iff (limit payload : Nat) (i j : Instr) :
    payloadBelow limit payload i = .ok j ↔ payload < limit ∧ i = j := by
  unfold payloadBelow
  split <;> simp [*]

/-- The rows of the table of events: the code, and the bound that keeps the payload inside the row's fields (R112). -/
def eventRows : List (Nat × Nat) :=
  [(0x01, 4), (0x02, 1), (0x03, 1), (0x04, 1), (0x05, 1), (0x06, 1), (0x07, 2), (0x08, 512), (0x09, 1), (0x0A, 1)]

/-- The events that have an operation are those of the table. -/
theorem exists_decodeEvent_iff (code payload : Nat) (a : Operand) :
    (∃ i, decodeEvent code payload a = .ok i) ↔ ∃ row ∈ eventRows, code = row.1 ∧ payload < row.2 := by
  unfold decodeEvent
  split <;> simp_all [eventRows, payloadBelow_eq_ok_iff]

/-- The operation of an event has that event's code and payload as its fields. -/
theorem decodeEvent_form {code payload : Nat} {a : Operand} {i : Instr} (h : decodeEvent code payload a = .ok i) :
    i.form = .event code payload := by
  unfold decodeEvent at h
  split at h
  case h_11 => cases h
  all_goals obtain ⟨hp, rfl⟩ := (payloadBelow_eq_ok_iff ..).mp h
  -- RESET, LOCK and LEVEL have payload fields; every other row has none.
  case h_1 => interval_cases payload <;> rfl
  case h_7 => interval_cases payload <;> rfl
  case h_8 =>
    have hbit : (payload / 256 % 2 == 1).toNat = payload / 256 := by
      have hle : payload / 256 < 2 := by omega
      interval_cases payload / 256 <;> rfl
    simp only [Instr.form, hbit, Fin.ofNat_eq_cast, Fin.val_natCast]
    congr 1
    omega
  all_goals
    obtain rfl : payload = 0 := by omega
    rfl

theorem decodeEvent_wellFormed {code payload : Nat} {a : Operand} {i : Instr} (h : decodeEvent code payload a = .ok i) :
    i.wellFormed = true := by
  unfold decodeEvent at h
  split at h
  case h_11 => cases h
  all_goals
    obtain ⟨-, rfl⟩ := (payloadBelow_eq_ok_iff ..).mp h
    rfl

theorem decodeIr_wellFormed (d : Dir) (sz : Size) (off : Offset) (a : Operand) : (decodeIr d sz off a).wellFormed = true := by
  unfold decodeIr
  split
  case isTrue hundeclared => cases d <;> exact hundeclared
  case isFalse => cases d <;> rfl

theorem decodeCcuRead_wellFormed (sz : Size) (off : Offset) : (decodeCcuRead sz off).wellFormed = true := by
  unfold decodeCcuRead
  split <;> simp_all [Instr.wellFormed, ccuUndeclared, ccuDeclared]

theorem decodeCcuWrite_wellFormed (sz : Size) (off : Offset) (a : Operand) : (decodeCcuWrite sz off a).wellFormed = true := by
  unfold decodeCcuWrite
  split <;> simp_all [Instr.wellFormed, ccuUndeclared, ccuDeclared]

theorem decodeStmRead_wellFormed (sz : Size) (off : Offset) : (decodeStmRead sz off).wellFormed = true := by
  unfold decodeStmRead
  split <;> simp_all [Instr.wellFormed, stmUndeclared, stmDeclared]

theorem decodeStmWrite_wellFormed (sz : Size) (off : Offset) (a : Operand) : (decodeStmWrite sz off a).wellFormed = true := by
  unfold decodeStmWrite
  split <;> simp_all [Instr.wellFormed, stmUndeclared, stmDeclared]

theorem decodeUartRead_wellFormed (sz : Size) (off : Offset) : (decodeUartRead sz off).wellFormed = true := by
  unfold decodeUartRead
  split <;> simp_all [Instr.wellFormed, uartUndeclared, uartDeclared]

theorem decodeUartWrite_wellFormed (sz : Size) (off : Offset) (a : Operand) : (decodeUartWrite sz off a).wellFormed = true := by
  unfold decodeUartWrite
  split <;> simp_all [Instr.wellFormed, uartUndeclared, uartDeclared]

/-- A bus descriptor is read as an undeclared access only where its unit has no register at the offset. -/
theorem decodeBus_wellFormed (d : Dir) (sz : Size) (u : UnitId) (off : Offset) (a : Operand) :
    (decodeBus d sz u off a).wellFormed = true := by
  cases u with
  | ir => exact decodeIr_wellFormed d sz off a
  | ccu => cases d; exacts [decodeCcuRead_wellFormed sz off, decodeCcuWrite_wellFormed sz off a]
  | stm => cases d; exacts [decodeStmRead_wellFormed sz off, decodeStmWrite_wellFormed sz off a]
  | uart => cases d; exacts [decodeUartRead_wellFormed sz off, decodeUartWrite_wellFormed sz off a]

/-- Whatever operation a form is read as, it is well formed and has that form. -/
theorem decodeForm_form {f : Form} {a : Operand} {i : Instr} (h : decodeForm f a = .ok i) : i.wellFormed = true ∧ i.form = f := by
  cases f with
  | bus d sz u off =>
    obtain rfl : decodeBus d sz u off a = i := by simpa [decodeForm] using h
    exact ⟨decodeBus_wellFormed d sz u off a, decodeBus_form d sz u off a⟩
  | event code payload => exact ⟨decodeEvent_wellFormed h, decodeEvent_form h⟩

/-! ### The round trips (O1, O2, O4) -/

open Laws.FormRoundTrip in
/-- Every row of the opcode table is read back from the fields and operands of its encoding. -/
theorem formRoundTrip (i : Instr) : Laws.FormRoundTrip.Statement i := by
  cases i
  exacts [
    rdIrSrc _ _ _, wrIrSrc _ _ _ _, rdCcuPllstat _ _, wrCcuPllstat _ _ _, rdCcuPllcon0 _ _, wrCcuPllcon0 _ _ _, rdCcuPllcon1 _ _,
    wrCcuPllcon1 _ _ _, rdCcuCcucon0 _ _, wrCcuCcucon0 _ _ _, rdCcuCcucon1 _ _, wrCcuCcucon1 _ _ _, rdStmClc _ _, wrStmClc _ _ _,
    rdStmId _ _, wrStmId _ _ _, rdStmTim0 _ _, wrStmTim0 _ _ _, rdStmTim1 _ _, wrStmTim1 _ _ _, rdStmTim2 _ _, wrStmTim2 _ _ _,
    rdStmTim3 _ _, wrStmTim3 _ _ _, rdStmTim4 _ _, wrStmTim4 _ _ _, rdStmTim5 _ _, wrStmTim5 _ _ _, rdStmTim6 _ _, wrStmTim6 _ _ _,
    rdStmCap _ _, wrStmCap _ _ _, rdStmCmp0 _ _, wrStmCmp0 _ _ _, rdStmCmp1 _ _, wrStmCmp1 _ _ _, rdStmCmcon _ _, wrStmCmcon _ _ _,
    rdStmIcr _ _, wrStmIcr _ _ _, rdStmIscr _ _, wrStmIscr _ _ _, rdStmTim0sv _ _, wrStmTim0sv _ _ _, rdStmCapsv _ _, wrStmCapsv _ _ _,
    rdStmOcs _ _, wrStmOcs _ _ _, rdStmKrstclr _ _, wrStmKrstclr _ _ _, rdStmKrst1 _ _, wrStmKrst1 _ _ _, rdStmKrst0 _ _,
    wrStmKrst0 _ _ _, rdStmAccen1 _ _, wrStmAccen1 _ _ _, rdStmAccen0 _ _, wrStmAccen0 _ _ _, rdUartClc _ _, wrUartClc _ _ _,
    rdUartIocr _ _, wrUartIocr _ _ _, rdUartId _ _, wrUartId _ _ _, rdUartTxfifocon _ _, wrUartTxfifocon _ _ _, rdUartRxfifocon _ _,
    wrUartRxfifocon _ _ _, rdUartBitcon _ _, wrUartBitcon _ _ _, rdUartFramecon _ _, wrUartFramecon _ _ _, rdUartDatcon _ _,
    wrUartDatcon _ _ _, rdUartBrg _ _, wrUartBrg _ _ _, rdUartBrd _ _, wrUartBrd _ _ _, rdUartLincon _ _, wrUartLincon _ _ _,
    rdUartLinbtimer _ _, wrUartLinbtimer _ _ _, rdUartLinhtimer _ _, wrUartLinhtimer _ _ _, rdUartFlags _ _, wrUartFlags _ _ _,
    rdUartFlagsset _ _, wrUartFlagsset _ _ _, rdUartFlagsclear _ _, wrUartFlagsclear _ _ _, rdUartFlagsenable _ _,
    wrUartFlagsenable _ _ _, rdUartTxdata _ _, wrUartTxdata _ _ _ _, rdUartRxdata _ _, wrUartRxdata _ _ _, rdUartCsr _ _,
    wrUartCsr _ _ _, rdUartRxdatad _ _, wrUartRxdatad _ _ _, rdUartOcs _ _, wrUartOcs _ _ _, rdUartKrstclr _ _, wrUartKrstclr _ _ _,
    rdUartKrst1 _ _, wrUartKrst1 _ _ _, rdUartKrst0 _ _, wrUartKrst0 _ _ _, rdUartAccen1 _ _, wrUartAccen1 _ _ _, rdUartAccen0 _ _,
    wrUartAccen0 _ _ _, rdIrUndeclared _ _, wrIrUndeclared _ _ _, rdCcuUndeclared _ _, wrCcuUndeclared _ _ _, rdStmUndeclared _ _,
    wrStmUndeclared _ _ _, rdUartUndeclared _ _, wrUartUndeclared _ _ _ _, evReset _, evResetAll, evTime _, evAlarm, evRx _,
    evWritable _, evLock _, evLevel _ _, evSnapshot, evRestore _]

/-- Settles O1: the fields are read back from the descriptor, then the operation from the fields. -/
theorem decodeReadsBackEveryEncodedOperation : Obligations.DecodeReadsBackEveryEncodedOperation := by
  unfold Obligations.DecodeReadsBackEveryEncodedOperation
  intro i hwf
  exact (decode_eq_ok_iff _ _).mpr ⟨i.form, parse_form i, formRoundTrip i hwf⟩

/-- Settles O2: the operation has the form that was parsed, and the descriptor holds nothing but that form's fields. -/
theorem decodedOperationsEncodeBackToTheirDescriptor : Obligations.DecodedOperationsEncodeBackToTheirDescriptor := by
  unfold Obligations.DecodedOperationsEncodeBackToTheirDescriptor
  intro o i h
  obtain ⟨f, hparse, hform⟩ := (decode_eq_ok_iff _ _).mp h
  obtain ⟨hwf, rfl⟩ := decodeForm_form hform
  exact ⟨hwf, toWord_of_parse hparse⟩

/-- Settles O4: each descriptor written out is the encoding of its operation, so O1 reads it back. -/
theorem writtenOutDescriptorsDecode : Obligations.WrittenOutDescriptorsDecode := by
  unfold Obligations.WrittenOutDescriptorsDecode
  have hreads := decodeReadsBackEveryEncodedOperation
  exact ⟨hreads (.wrUartTxdata .word 0 0x41#32 .accepted) rfl, hreads (.rdUartRxdata .word 0) rfl, hreads .evAlarm rfl,
    hreads (.evLevel 5 true) rfl, hreads (.wrIrSrc 10 .byte 1 0x04#32) rfl, hreads (.wrCcuCcucon1 .half 2 0x1100#32) rfl,
    hreads (.rdStmTim0 .byte 3) rfl⟩

/-! ### The refusals (O3) -/

/-- The bus descriptors that parse: SZ is one of the three sizes and the reserved bits are 0 (R111, R113). -/
theorem exists_parse_eq_bus_iff (w : Word) :
    (∃ d sz u off, Form.parse w = .ok (.bus d sz u off)) ↔
      bits 31 31 w = 0 ∧ bits 29 28 w ≠ 3 ∧ bits 27 26 w = 0 ∧ bits 23 12 w = 0 := by
  rw [← Size.exists_code_eq_iff (bits_lt 29 28 w)]
  constructor
  · rintro ⟨d, sz, u, off, h⟩
    obtain ⟨h31, h26, h12, -, hs, -, -⟩ := (parse_eq_bus_iff ..).mp h
    exact ⟨h31, ⟨sz, hs⟩, h26, h12⟩
  · rintro ⟨h31, ⟨sz, hs⟩, h26, h12⟩
    have hd := (Dir.ofCode_eq_iff (bits_lt 30 30 w) _).mp rfl
    have hu := (UnitId.ofCode_eq_iff (bits_lt 25 24 w) _).mp rfl
    exact ⟨_, sz, _, ⟨bits 11 0 w, bits_lt 11 0 w⟩, (parse_eq_bus_iff ..).mpr ⟨h31, h26, h12, hd, hs, hu, rfl⟩⟩

/-- What the decoder accepts, format by format (R113). -/
theorem decode_accepts_iff (o : Op) :
    (∃ i, decode o = .ok i) ↔
      (bits 31 31 o.desc = 0 ∧ bits 29 28 o.desc ≠ 3 ∧ bits 27 26 o.desc = 0 ∧ bits 23 12 o.desc = 0) ∨
      (bits 31 31 o.desc = 1 ∧ ∃ row ∈ eventRows, bits 30 24 o.desc = row.1 ∧ bits 23 0 o.desc < row.2) := by
  rw [← exists_parse_eq_bus_iff, ← exists_decodeEvent_iff _ _ o.args]
  constructor
  · rintro ⟨i, h⟩
    obtain ⟨f, hparse, hform⟩ := (decode_eq_ok_iff _ _).mp h
    cases f with
    | bus d sz u off => exact .inl ⟨d, sz, u, off, hparse⟩
    | event code payload =>
      obtain ⟨h31, rfl, rfl⟩ := (parse_eq_event_iff ..).mp hparse
      exact .inr ⟨h31, i, hform⟩
  · rintro (⟨d, sz, u, off, hparse⟩ | ⟨h31, i, hform⟩)
    · exact ⟨_, (decode_eq_ok_iff _ _).mpr ⟨_, hparse, rfl⟩⟩
    · exact ⟨i, (decode_eq_ok_iff _ _).mpr ⟨_, (parse_eq_event_iff ..).mpr ⟨h31, rfl, rfl⟩, hform⟩⟩

theorem step_of_undecodable {s : State} {e : Entry} {rest : List Entry} (hin : s.input = e :: rest)
    (hdec : ∀ i, decode e.op ≠ .ok i) : ∃ r, step s = .refused r := by
  cases h : decode e.op with
  | error r => exact ⟨.undecodable r, by simp [step, hin, h]⟩
  | ok i => exact absurd h (hdec i)

theorem ownedSource_iff (p : Params) (i : SourceIndex) :
    ownedSource p i = true ↔ i = p.timerSrc ∨ i = p.uartRxSrc ∨ i = p.uartTxSrc ∨ i = p.uartErrSrc := by
  simp [ownedSource, or_assoc]

theorem exec_evLevel_owned {s : State} {i : SourceIndex} (l : Bool) (ho : ownedSource s.cfg i = true) :
    exec (.evLevel i l) s = .refused .ownedSource := if_pos ho

/-- Settles O3: the decoder's acceptance by format, the step of a descriptor it refuses, and LEVEL's own refusal. -/
theorem refusedDescriptorsAreThoseTheSpecLists : Obligations.RefusedDescriptorsAreThoseTheSpecLists := by
  unfold Obligations.RefusedDescriptorsAreThoseTheSpecLists
  exact ⟨decode_accepts_iff, fun s e rest => step_of_undecodable,
    fun s i l ho => exec_evLevel_owned l ((ownedSource_iff s.cfg i).mpr ho)⟩

end Sys2Proof.Machine
end

section
/-! O11, O23 to O26 and O10: the router (R201 to R208). Only `evaluate()`, the level inputs and the router's reset touch the router, so the
output invariant of R204 rests on the three of them (`evaluate_agrees`, `setLevel_agrees`, `routerOutputAgrees_resetValue`); a level input
that flips and a source word's write are one replaced slot followed by `evaluate()`. -/

namespace Sys2Proof.Machine

/-! ### The output invariant (O11) -/

/-- The output invariant reads nothing but the router and the parameters. -/
theorem RouterOutputAgrees.of_router_eq {s t : State} (h : RouterOutputAgrees s) (hcfg : t.cfg = s.cfg) (hrouter : t.router = s.router) :
    RouterOutputAgrees t :=
  (routerOutputAgrees_congr hcfg hrouter).mpr h

theorem RouterOutputAgrees.returning {s : State} (h : RouterOutputAgrees s) (r : Result) : RouterOutputAgrees (s.returning r) :=
  h.of_router_eq rfl rfl

/-- The effect of a bus access keeps the output invariant: outside the router it leaves the router alone, inside it a write evaluates. -/
theorem BusEffect.routerOutputAgrees {p : Params} {u : UnitId} {s s' : State} (he : BusEffect p u s s') (h : RouterOutputAgrees s) :
    RouterOutputAgrees s' := by
  by_cases hu : u = .ir
  · subst hu
    cases he with
    | read he => cases he; exact h
    | write he v =>
      cases he with
      | ignored => exact h
      | source i => exact evaluate_agrees _
    | undeclared ds => exact h.of_router_eq rfl rfl
  · exact h.of_router_eq he.onlyUnitChanged.cfg (he.onlyUnitChanged.router hu)

theorem fireAlarm_agrees (a : Alarm) (s : State) (h : RouterOutputAgrees s) : RouterOutputAgrees (fireAlarm a s) := by
  unfold fireAlarm
  exact sendTimer_agrees _ (h.of_router_eq rfl rfl)

theorem receive_agrees (bytes : List Byte) (s : State) (h : RouterOutputAgrees s) : RouterOutputAgrees (receive bytes s) := by
  unfold receive
  exact sendUart_agrees _ (h.of_router_eq rfl rfl)

theorem resetUnit_agrees (u : UnitId) (s : State) (h : RouterOutputAgrees s) : RouterOutputAgrees (resetUnit u s) := by
  cases u with
  | ir => exact routerOutputAgrees_resetValue _ rfl
  | ccu => exact h.of_router_eq rfl rfl
  | stm => exact setLevel_agrees _ _ _ (h.of_router_eq rfl rfl)
  | uart => exact sendUart_agrees _ (h.of_router_eq rfl rfl)

/-- Every operation that completes keeps the output invariant. -/
theorem Completed.routerOutputAgrees {i : Instr} {s t : State} (hc : Completed s i t) (h : RouterOutputAgrees s) :
    RouterOutputAgrees t := by
  cases hc with
  | bus _ he r => exact afterAccess_agrees _ _ _ ((he.routerOutputAgrees h).returning r)
  | reset u => exact (resetUnit_agrees u s h).returning _
  | resetAll => exact routerOutputAgrees_resetValue _ rfl
  | time | lock | snapshot => exact h.of_router_eq rfl rfl
  | alarm a => exact (fireAlarm_agrees a s h).returning _
  | rx bytes => exact (receive_agrees bytes s h).returning _
  | writable ans item => exact (sendUart_agrees _ (h.of_router_eq (by simp) (by simp))).returning _
  | level j l => exact (setLevel_agrees j l s h).returning _
  | restore b => exact (evaluate_agrees _).returning _

/-- Settles O11: the router is reset at power-on, taking the entry leaves it alone, and every operation that completes keeps the
invariant. -/
theorem everyStepKeepsTheRouterOutputInvariant : Obligations.EveryStepKeepsTheRouterOutputInvariant := by
  unfold Obligations.EveryStepKeepsTheRouterOutputInvariant
  refine ⟨fun p es => routerOutputAgrees_resetValue _ rfl, fun s t hs h => ?_⟩
  obtain ⟨e, rest, i, hc⟩ := completed_of_step h
  exact hc.routerOutputAgrees (hs.of_router_eq rfl rfl)

/-! ### The arbitration (O24) -/

theorem evaluate_source (s : State) (i : SourceIndex) : (evaluate s).router.source i = s.router.source i :=
  arbitrate_source s.cfg s.router i

theorem sourceQualifies_evaluate (s : State) (i : SourceIndex) : SourceQualifies (evaluate s) i ↔ SourceQualifies s i :=
  sourceQualifies_congr (evaluate_cfg s) (evaluate_source s) i

/-- Where a source qualifies there is a lowest one: the arbitration's winner. -/
theorem exists_lowestQualifying {s : State} (h : ∃ i, SourceQualifies s i) : ∃ i, LowestQualifying s i := by
  obtain ⟨i, hi⟩ := h
  cases hw : winner s.cfg s.router with
  | none => exact absurd hi (winner_eq_none s hw i)
  | some x =>
    obtain ⟨w, hlow, _⟩ := winner_eq_some s x hw
    exact ⟨w, hlow⟩

/-- `evaluate()` forwards the lowest qualifying source (R202). -/
theorem evaluate_forwards {s : State} {i : SourceIndex} (hi : LowestQualifying s i) :
    (evaluate s).router.line = true ∧ (evaluate s).router.cpuPrio = (s.router.source i).prio := by
  obtain ⟨hline, hprio⟩ := evaluate_agrees s
  refine ⟨hline.mpr ⟨i, (sourceQualifies_evaluate s i).mpr hi.1⟩, ?_⟩
  rw [hprio i ((lowestQualifying_congr (evaluate_cfg s) (evaluate_source s) i).mpr hi), evaluate_source]

/-- Settles O24: the winner of the arbitration is the lowest qualifying source, and without a winner the priority number is held. -/
theorem evaluateForwardsTheLowestQualifyingSource : Obligations.EvaluateForwardsTheLowestQualifyingSource := by
  unfold Obligations.EvaluateForwardsTheLowestQualifyingSource
  intro s
  refine ⟨fun i hi => evaluate_forwards hi, exists_lowestQualifying, fun hno => ?_, evaluate_source s, rfl⟩
  exact (evaluate_holds_cpuPrio s hno).symm

/-! ### One slot replaced, then `evaluate()` (O23, O26) -/

/-- Replacing the slot of index `i` by `f` of it and then evaluating, in the terms of the statements. -/
theorem evaluate_setSource_evaluated (s : State) (i : SourceIndex) (f : Source → Source) :
    RouterEvaluated s (evaluate (s.onRouter fun r => r.setSource i (f (r.source i))))
      (fun j => if j = i then f (s.router.source i) else s.router.source j) := by
  refine ⟨fun j => by simp [Router.source_setSource], evaluate_agrees _, fun hno => ?_⟩
  have hnone (j : SourceIndex) : ¬ SourceQualifies (s.onRouter fun r => r.setSource i (f (r.source i))) j :=
    fun hj => hno j ((sourceQualifies_evaluate _ j).mpr hj)
  exact (evaluate_holds_cpuPrio _ hnone).1

/-- What an operation returns is no part of the router. -/
theorem RouterEvaluated.returning {s t : State} {src : SourceIndex → Source} (h : RouterEvaluated s t src) (r : Result) :
    RouterEvaluated s (t.returning r) src := by
  obtain ⟨hsrc, hagrees, hheld⟩ := h
  exact ⟨hsrc, hagrees.returning r, hheld⟩

theorem onlyRouterChanged_replace (s : State) (r : Router) (res : Result) : OnlyRouterChanged s { s with router := r, result := res } :=
  ⟨rfl, rfl, rfl, rfl, rfl, rfl, rfl, rfl, fun _ => rfl⟩

/-! ### Level inputs (O23) -/

theorem setLevel_of_eq {i : SourceIndex} {l : Bool} {s : State} (h : (s.router.source i).pending = l) : setLevel i l s = s :=
  if_pos h

theorem setLevel_of_ne {i : SourceIndex} {l : Bool} {s : State} (h : (s.router.source i).pending ≠ l) :
    setLevel i l s = evaluate (s.onRouter fun r => r.setSource i { r.source i with pending := l }) :=
  if_neg h

/-- A level input changes nothing but the router. -/
theorem setLevel_eq_replace (i : SourceIndex) (l : Bool) (s : State) : setLevel i l s = { s with router := (setLevel i l s).router } := by
  rcases setLevel_cases i l s with ⟨_, e⟩ | ⟨_, e⟩ <;> rw [e]
  rfl

theorem setLevel_evaluated {i : SourceIndex} {l : Bool} {s : State} (h : (s.router.source i).pending ≠ l) :
    RouterEvaluated s (setLevel i l s)
      (fun j => if j = i then { s.router.source i with pending := l } else s.router.source j) := by
  rw [setLevel_of_ne h]
  exact evaluate_setSource_evaluated s i fun x => { x with pending := l }

theorem exec_evLevel_unowned {s : State} {i : SourceIndex} (l : Bool) (ho : ¬ ownedSource s.cfg i = true) :
    exec (.evLevel i l) s = .next ((setLevel i l s).returning .nothing) := if_neg ho

theorem setLevel_returning_onlyRouterChanged (i : SourceIndex) (l : Bool) (s : State) (r : Result) :
    OnlyRouterChanged s ((setLevel i l s).returning r) := by
  rw [setLevel_eq_replace]
  exact onlyRouterChanged_replace s _ r

/-- Settles O23: the level input by whether the pending bit has the level already, LEVEL by whether a unit owns the source. -/
theorem levelEventSetsThePendingBit : Obligations.LevelEventSetsThePendingBit := by
  unfold Obligations.LevelEventSetsThePendingBit
  refine ⟨fun s i l => ⟨setLevel_of_eq, fun hne => ⟨setLevel_evaluated hne, setLevel_eq_replace i l s⟩⟩,
    fun s i l htimer hrx htx herr => ?_, fun s i l ho => exec_evLevel_owned l ((ownedSource_iff s.cfg i).mpr ho)⟩
  have hunowned : ¬ ownedSource s.cfg i = true := by simp [ownedSource_iff, htimer, hrx, htx, herr]
  exact ⟨_, exec_evLevel_unowned l hunowned, rfl, setLevel_returning_onlyRouterChanged i l s _, rfl⟩

/-! ### Source words (O25, O26) -/

/-- Settles O25: an aligned access to a source word is admitted, and its read has no effect but the result. -/
theorem sourceWordReads : Obligations.SourceWordReads := by
  unfold Obligations.SourceWordReads
  intro s i sz lane hwf haligned
  have hadm := admission_sourceWord s hwf i sz lane haligned
  show readReg .ir (4 * i.val) sz lane (fun s => srcRead (s.router.source i)) id s = _
  rw [readReg_admitted _ _ hadm, srcRead_eq]
  rfl

/-- The slot after a write of its word, field by field: set wins over clear (R97, R206). -/
theorem configureSource_eq (v : Word) (x : Source) : configureSource v x =
    { prio := v.extractLsb' 0 8
      enabled := if bits 10 9 v = 2 then true else if bits 10 9 v = 3 then false else x.enabled
      pending := if bit 26 v then true else if bit 25 v then false else x.pending } := by
  rw [configureSource, commandEnabled, clearThenSet_eq]

/-- An admitted write of a source word configures the slot with the merged word and evaluates (R206). -/
theorem exec_wrIrSrc_admitted {s : State} {i : SourceIndex} {sz : Size} {lane : Lane} (data : Word)
    (hadm : admission (windowSize s.cfg .ir) (4 * i.val + lane.val) sz = none) :
    exec (.wrIrSrc i sz lane data) s =
      .next ((evaluate (s.onRouter fun r => r.setSource i
        (configureSource (mergeLanes (sourceWord (s.router.source i)) data lane sz) (r.source i)))).returning .nothing) := by
  show execWrIrSrc i sz lane data s = _
  rw [execWrIrSrc, writeReg_admitted _ _ _ hadm, srcRead_eq]
  rfl

/-- Settles O26: an aligned access to a source word is admitted, and its write replaces the one slot and evaluates. -/
theorem sourceWordWrites : Obligations.SourceWordWrites := by
  unfold Obligations.SourceWordWrites
  intro s i sz lane data hwf haligned x v
  have hadm := admission_sourceWord s hwf i sz lane haligned
  have hevaluated := (evaluate_setSource_evaluated s i (configureSource v)).returning .nothing
  simp only [configureSource_eq v (s.router.source i)] at hevaluated
  exact ⟨_, exec_wrIrSrc_admitted data hadm, rfl, onlyRouterChanged_replace s _ _, hevaluated⟩

/-! ### Power-on (O10) -/

/-- At power-on the router and the other units hold their reset values, which meet both invariants (R42, R456). -/
theorem init_invariants (p : Params) : RouterOutputAgrees (State.init p) ∧ StoredFormHolds (State.init p) :=
  ⟨routerOutputAgrees_resetValue _ rfl, (storedFormHolds_iff _).mpr
    { clock := clockForm_resetValue true, counter := le_rfl, uart := uartForm_resetValue p, retry := rfl, guest := rfl }⟩

/-- Settles O10: `State.reset` is the power-on state of the reference parameters. -/
theorem invariantsHoldAtPowerOn : Obligations.InvariantsHoldAtPowerOn := by
  unfold Obligations.InvariantsHoldAtPowerOn
  exact ⟨init_invariants Params.reference, init_invariants⟩

end Sys2Proof.Machine
end

section
/-! O30 to O35: the clock unit (R230 to R248). A read of a unit that sends nothing on reads returns its word and does no more; a write of
the clock unit is one update of the unit and one report, whatever the register, so each register's statement is its write rule in that
form. What a frequency query reports is the oscillator's report followed by the mode's. -/

namespace Sys2Proof.Machine

/-! ### Register reads (O30) -/

/-- A register of the clock unit or the timer whose read has no side effect reads as its word: no level is sent (R87, R88). -/
theorem readsAs_of_readReg {u : UnitId} {w : Nat} {rd : Size → Lane → Instr} {cur : State → Word} (hu : u = .ccu ∨ u = .stm)
    (hw : w % 4 = 0) (hwin : w + 4 ≤ 0x100) (hexec : ∀ sz lane s, exec (rd sz lane) s = readReg u w sz lane cur id s) :
    ReadsAs rd cur := by
  intro s sz lane haligned
  have hir : u ≠ .ir := by rcases hu with rfl | rfl <;> decide
  rw [hexec, readReg_admitted cur id (admission_unitRegister s.cfg u hir w sz lane hw hwin haligned)]
  rcases hu with rfl | rfl <;> rfl

/-- PLLSTAT as a sum: its flags stand at different bits, and bits 4 and 5 read 1 (R131, R236). -/
theorem pllstatRead_eq (c : Clock) : pllstatRead c =
    BitVec.ofNat 32 ((if bit 0 c.pllcon0 then 1 else 0) + (if c.pllLocked then 4 else 0) + (if c.findis then 8 else 0) + 16 + 32) := by
  unfold pllstatRead
  generalize bit 0 c.pllcon0 = bypass, c.pllLocked = locked, c.findis = freerun
  revert bypass locked freerun
  decide

/-- Settles O30: the five reads have no side effect, and the clock unit sends nothing. -/
theorem clockRegisterReads : Obligations.ClockRegisterReads := by
  unfold Obligations.ClockRegisterReads
  have hccu : UnitId.ccu = .ccu ∨ UnitId.ccu = .stm := .inl rfl
  refine ⟨?_, ?_, ?_, ?_, ?_⟩
  · simp only [← pllstatRead_eq]
    exact readsAs_of_readReg (w := 0x14) hccu (by decide) (by decide) fun _ _ _ => rfl
  · exact readsAs_of_readReg (w := 0x18) hccu (by decide) (by decide) fun _ _ _ => rfl
  · exact readsAs_of_readReg (w := 0x1C) hccu (by decide) (by decide) fun _ _ _ => rfl
  · exact readsAs_of_readReg (w := 0x30) hccu (by decide) (by decide) fun _ _ _ => rfl
  · exact readsAs_of_readReg (w := 0x34) hccu (by decide) (by decide) fun _ _ _ => rfl

/-! ### Register writes (O31, O32) -/

/-- An aligned write of a clock register takes its write rule in one step: the clock unit sends nothing (R85, R88). -/
theorem writeReg_ccu_aligned {w : Nat} (hw : w % 4 = 0) (hwin : w + 4 ≤ 0x100) {sz : Size} {lane : Lane} (haligned : Aligned sz lane)
    (data : Word) (cur : State → Word) (effect : Word → State → State) (s : State) :
    writeReg .ccu w sz lane data cur effect s = .next ((effect (mergeLanes (cur s) data lane sz) s).returning .nothing) := by
  rw [writeReg_admitted data cur effect (admission_unitRegister s.cfg .ccu (by decide) w sz lane hw hwin haligned), afterAccess_ccu]

/-- An update of the clock unit and a report change nothing else. -/
theorem onlyClockChanged_update (f : Clock → Clock) (ds : List Diag) (r : Result) (s : State) :
    OnlyClockChanged s (((s.onClock f).report ds).returning r) :=
  ⟨rfl, rfl, rfl, rfl, rfl, rfl, rfl, fun _ => rfl⟩

/-- An update of the clock unit and a report of `ds` report `ds`. -/
theorem reports_update (f : Clock → Clock) (ds : List Diag) (r : Result) (s : State) :
    Reports s (((s.onClock f).report ds).returning r) ds :=
  reports_congr (reports_report (s.onClock f) ds) rfl rfl

/-- A clock register whose write rule is the update `upd` of the unit and the report `diags` of the unit after it. -/
theorem clockWrites_of_writeReg {w : Nat} {wr : Size → Lane → Word → Instr} {cur : State → Word} {effect : Word → State → State}
    {upd : Word → Clock → Clock} {diags : Clock → List Diag} (hw : w % 4 = 0) (hwin : w + 4 ≤ 0x100)
    (hexec : ∀ sz lane data s, exec (wr sz lane data) s = writeReg .ccu w sz lane data cur effect s)
    (heffect : ∀ v s, effect v s = (s.onClock (upd v)).report (diags (upd v s.clock))) : ClockWrites wr cur upd diags := by
  intro s sz lane data haligned
  refine ⟨_, (hexec sz lane data s).trans (writeReg_ccu_aligned hw hwin haligned data cur effect s), rfl, ?_⟩
  rw [heffect]
  exact ⟨rfl, reports_update _ _ _ _, onlyClockChanged_update _ _ _ _⟩

/-- Settles O31: the three write rules report nothing, and PLLSTAT's is to ignore the word (R237). -/
theorem clockRegisterWrites : Obligations.ClockRegisterWrites := by
  unfold Obligations.ClockRegisterWrites
  exact ⟨clockWrites_of_writeReg (w := 0x14) (by decide) (by decide) (fun _ _ _ _ => rfl) fun _ _ => rfl,
    clockWrites_of_writeReg (w := 0x1C) (by decide) (by decide) (fun _ _ _ _ => rfl) fun _ _ => rfl,
    clockWrites_of_writeReg (w := 0x34) (by decide) (by decide) (fun _ _ _ _ => rfl) fun _ _ => rfl⟩

/-- Only the Freerunning and the Illegal mode are reported (R232). -/
theorem modeDiags_eq (c : Clock) : modeDiags c =
    if clockMode c = .freerunning then [.unimplementedClockMode]
    else if clockMode c = .illegal then [.illegalClockConfiguration .mode] else [] := by
  unfold modeDiags
  cases clockMode c <;> rfl

/-- Settles O32: the free-run commands are clear then set, and the report is the new mode's. -/
theorem pllcon0WriteSetsModeAndFactors : Obligations.Pllcon0WriteSetsModeAndFactors := by
  unfold Obligations.Pllcon0WriteSetsModeAndFactors
  simp only [← clearThenSet_eq, ← modeDiags_eq]
  exact clockWrites_of_writeReg (w := 0x18) (by decide) (by decide) (fun _ _ _ _ => rfl) fun _ _ => rfl

/-! ### The commit (O33) -/

/-- The bus divider stands in bits 29:0, so a commit reads it alike from the merged and from the stored word (R134, R243). -/
theorem committedDividers_stored (v ccucon1 : Word) :
    committedDividers (v &&& 0x3FFFFFFF#32) ccucon1 = committedDividers v ccucon1 := by
  have hones : BitVec.extractLsb' 16 4 0x3FFFFFFF#32 = BitVec.allOnes 4 := by decide
  have hbus : divider 16 (v &&& 0x3FFFFFFF#32) = divider 16 v := by
    rw [divider, BitVec.extractLsb'_and, hones, BitVec.and_allOnes, divider]
  rw [committedDividers, hbus, committedDividers]

/-- With bit 30 clear a CCUCON0 write establishes the dividers, clears the latch, and reports the reserved values (R243). -/
theorem writeCcucon0_commit {v : Word} (h : bit 30 v = false) (s : State) : writeCcucon0 v s =
    (s.onClock fun c =>
      { c with ccucon0 := v &&& 0x3FFFFFFF#32, est := committedDividers v s.clock.ccucon1, updPending := false }).report
      (dividerDiags (committedDividers v s.clock.ccucon1)) := by
  rw [writeCcucon0, if_neg (by simp [h])]
  simp only [State.onClock_clock, committedDividers_stored]
  rfl

/-- With bit 30 set a CCUCON0 write sets the latch; the dividers wait (R243). -/
theorem writeCcucon0_latch {v : Word} (h : bit 30 v = true) (s : State) : writeCcucon0 v s =
    s.onClock fun c => { c with ccucon0 := v &&& 0x3FFFFFFF#32, updPending := true } := by
  rw [writeCcucon0, if_pos h]
  rfl

/-- Committing or not, a CCUCON0 write reaches the clock unit and the trace alone. -/
theorem writeCcucon0_onlyClockChanged (v : Word) (r : Result) (s : State) :
    OnlyClockChanged s ((writeCcucon0 v s).returning r) :=
  ⟨by simp, by simp, by simp, by simp, by simp, by simp, by simp, by simp⟩

theorem suspiciousValue_iff (v : BitVec 4) : suspiciousValue v = true ↔ v ∈ [7#4, 9#4, 11#4, 13#4, 14#4] := by
  simp [suspiciousValue, or_assoc]

/-- A commit reports each domain whose divider is a reserved value (R235). -/
theorem mem_dividerDiags (e : Established) (d : Diag) : d ∈ dividerDiags e ↔
    ∃ dom, d = .suspiciousDivider dom (establishedDivider e dom) ∧ establishedDivider e dom ∈ [7#4, 9#4, 11#4, 13#4, 14#4] := by
  have hall (dom : Domain) : dom ∈ ([.bus, .timer, .serial] : List Domain) := by cases dom <;> decide
  simp only [dividerDiags, List.mem_filterMap, hall, true_and, ← suspiciousValue_iff, Option.ite_none_right_eq_some, Option.some.injEq]
  exact exists_congr fun dom => ⟨fun ⟨hs, hd⟩ => ⟨hd.symm, hs⟩, fun ⟨hd, hs⟩ => ⟨hs, hd.symm⟩⟩

/-- Settles O33, by bit 30 of the merged word. -/
theorem ccucon0WriteCommitsOrSetsTheLatch : Obligations.Ccucon0WriteCommitsOrSetsTheLatch := by
  unfold Obligations.Ccucon0WriteCommitsOrSetsTheLatch
  intro s sz lane data haligned v
  refine ⟨(writeCcucon0 v s).returning .nothing,
    writeReg_ccu_aligned (w := 0x30) (by decide) (by decide) haligned data (fun s => ccucon0Read s.clock) writeCcucon0 s, rfl,
    writeCcucon0_onlyClockChanged v _ s, fun hcommit => ?_, fun hlatch => ?_⟩
  · rw [writeCcucon0_commit hcommit]
    exact ⟨rfl, _, reports_update _ _ _ s, mem_dividerDiags _⟩
  · rw [writeCcucon0_latch hlatch]
    exact ⟨rfl, rfl⟩

/-! ### Frequencies and what their queries report (O34) -/

/-- The three INSEL cases of the oscillator frequency (R231). -/
theorem oscillatorFrequency_cases (p : Params) (c : Clock) :
    (bits 29 28 c.ccucon1 = 0 → oscillatorFrequency p c = p.fIn0) ∧ (bits 29 28 c.ccucon1 = 1 → oscillatorFrequency p c = p.fIn1) ∧
      (bits 29 28 c.ccucon1 ≠ 0 → bits 29 28 c.ccucon1 ≠ 1 → oscillatorFrequency p c = 0) := by
  unfold oscillatorFrequency insel
  refine ⟨fun h0 => if_pos h0, fun h1 => ?_, fun h0 h1 => ?_⟩
  · rw [if_neg (by omega), if_pos h1]
  · rw [if_neg h0, if_neg h1]

theorem pllFrequency_normal (p : Params) {c : Clock} (h : clockMode c = .normal) :
    pllFrequency p c = oscillatorFrequency p c * (bits 15 9 c.pllcon0 + 1) / ((bits 27 24 c.pllcon0 + 1) * (bits 6 0 c.pllcon1 + 1)) := by
  simp only [pllFrequency, h, factorN, factorP, factorK2]

theorem pllFrequency_prescaler (p : Params) {c : Clock} (h : clockMode c = .prescaler) :
    pllFrequency p c = oscillatorFrequency p c / (bits 22 16 c.pllcon1 + 1) := by
  simp only [pllFrequency, h, factorK1]

theorem pllFrequency_freerunning (p : Params) {c : Clock} (h : clockMode c = .freerunning) : pllFrequency p c = 0 := by
  simp only [pllFrequency, h]

theorem pllFrequency_illegal (p : Params) {c : Clock} (h : clockMode c = .illegal) : pllFrequency p c = 0 := by
  simp only [pllFrequency, h]

/-- An oscillator query reports an INSEL other than 0 and 1 (R231). -/
theorem mem_oscillatorDiags (c : Clock) (x : Diag) : x ∈ oscillatorDiags c ↔
    bits 29 28 c.ccucon1 ≠ 0 ∧ bits 29 28 c.ccucon1 ≠ 1 ∧ x = .illegalClockConfiguration (.insel (bits 29 28 c.ccucon1)) := by
  unfold oscillatorDiags insel
  split
  · next h => rcases h with h | h <;> simp [h]
  · next h =>
    obtain ⟨h0, h1⟩ := not_or.mp h
    simp [h0, h1]

theorem mem_modeDiags (c : Clock) (x : Diag) : x ∈ modeDiags c ↔
    (clockMode c = .freerunning ∧ x = .unimplementedClockMode) ∨ (clockMode c = .illegal ∧ x = .illegalClockConfiguration .mode) := by
  rw [modeDiags_eq]
  cases clockMode c <;> simp

/-- A PLL query reports what the oscillator's query and the mode report (R232). -/
theorem mem_pllDiags (c : Clock) (x : Diag) : x ∈ pllDiags c ↔ QueryReports c x := by
  rw [pllDiags, List.mem_append, mem_oscillatorDiags, mem_modeDiags, QueryReports]

/-- A query of a domain with a divider reports what the PLL query does; with the divider 0 it reports nothing (R233; log 19). -/
theorem mem_derivedDiags (c : Clock) (d : Domain) (x : Diag) :
    x ∈ derivedDiags c d ↔ establishedDivider c.est d ≠ 0#4 ∧ QueryReports c x := by
  unfold derivedDiags
  split
  · next h => simp [h]
  · next h => simp [h, mem_pllDiags]

/-- The source's check in Normal mode: 20 MHz with N = 2 and the other factors 1 (R248). -/
theorem pllFrequency_check_normal {p : Params} {c : Clock} (hin : oscillatorFrequency p c = 20000000) (hrun : c.findis = false)
    (hlock : c.pllLocked = true) (hcon0 : c.pllcon0 = 0x00000200#32) (hcon1 : c.pllcon1 = 0#32) : pllFrequency p c = 40000000 := by
  have hmode : clockMode c = .normal := by
    rw [clockMode, hcon0, hrun, hlock]
    rfl
  rw [pllFrequency_normal p hmode, hin, hcon0, hcon1]
  rfl

/-- The source's check in Prescaler mode: 20 MHz with K1 = 4 (R248). -/
theorem pllFrequency_check_prescaler {p : Params} {c : Clock} (hin : oscillatorFrequency p c = 20000000)
    (hcon0 : c.pllcon0 = 0x00000001#32) (hcon1 : c.pllcon1 = 0x00030000#32) : pllFrequency p c = 5000000 := by
  have hmode : clockMode c = .prescaler := by
    rw [clockMode, hcon0]
    rfl
  rw [pllFrequency_prescaler p hmode, hin, hcon1]
  rfl

/-- Settles O34, part by part. -/
theorem frequencyOfEachMode : Obligations.FrequencyOfEachMode := by
  unfold Obligations.FrequencyOfEachMode
  refine ⟨fun _ => rfl, oscillatorFrequency_cases,
    fun p _ => ⟨pllFrequency_normal p, pllFrequency_prescaler p, pllFrequency_freerunning p, pllFrequency_illegal p⟩,
    fun _ _ _ => rfl, fun _ => ⟨rfl, rfl, rfl⟩, mem_oscillatorDiags, mem_pllDiags, mem_derivedDiags,
    fun p c hfreq hinsel hrun hlock => ?_⟩
  obtain ⟨_, hsecond, _⟩ := oscillatorFrequency_cases p c
  have hin : oscillatorFrequency p c = 20000000 := (hsecond hinsel).trans hfreq
  exact ⟨pllFrequency_check_normal hin hrun hlock, pllFrequency_check_prescaler hin⟩

/-! ### The lock input and the time (O35) -/

/-- Settles O35: each of the two events is one update of the state. -/
theorem lockAndTimeEvents : Obligations.LockAndTimeEvents := by
  unfold Obligations.LockAndTimeEvents
  exact ⟨fun _ _ => rfl, fun _ _ => rfl⟩

end Sys2Proof.Machine
end

section
/-! O22 and O36 to O45: the timer (R270 to R322). An access to the timer and an ALARM change nothing but the timer and the trace; a write or
an ALARM then sends the level (`BesideTimerKept.sent`); a register's statement is that and its own rule on the timer. CMP0, CMP1 and ICR
arm through one alarm (`matchAlarm`), whose deadline O45 measures. -/

namespace Sys2Proof.Machine

/-! ### What an operation of the timer keeps, and the level send (O22) -/

/-- Nothing changed but the timer, the trace of diagnostics and what the operation returns: what an operation of the timer makes of `s`
before its level send. -/
structure BesideTimerKept (s t : State) : Prop where
  router : t.router = s.router
  clock : t.clock = s.clock
  uart : t.uart = s.uart
  emitted : t.emitted = s.emitted
  environment : EnvironmentKept s t

/-- The effect of an access to the timer keeps the other units and the environment. -/
theorem BusEffect.besideTimerKept {p : Params} {s s' : State} (he : BusEffect p .stm s s') : BesideTimerKept s s' where
  router := he.onlyUnitChanged.router (by decide)
  clock := he.onlyUnitChanged.clock (by decide)
  uart := he.onlyUnitChanged.uart (by decide)
  emitted := he.onlyUnitChanged.emitted (by decide)
  environment := by
    obtain ⟨hnow, hguest⟩ := he.now_guest
    exact ⟨hnow, he.onlyUnitChanged.cfg, he.input, fun _ => by rw [hguest]⟩

theorem besideTimerKept_onTimer (f : Timer → Timer) (s : State) : BesideTimerKept s (s.onTimer f) :=
  ⟨rfl, rfl, rfl, rfl, rfl, rfl, rfl, fun _ => rfl⟩

theorem BesideTimerKept.returning {s t : State} (h : BesideTimerKept s t) (r : Result) : BesideTimerKept s (t.returning r) :=
  ⟨h.router, h.clock, h.uart, h.emitted, h.environment⟩

/-- The level send reads the timer, and the router and the parameters, which an operation of the timer leaves alone until then. -/
theorem sendTimer_router {s s' : State} (hrouter : s'.router = s.router) (hcfg : s'.cfg = s.cfg) :
    (sendTimer s').router = (setLevel s.cfg.timerSrc (s'.timer.cmp0.ir || s'.timer.cmp1.ir) s).router := by
  rw [sendTimer, hcfg, timerLevel]
  exact setLevel_router_congr _ _ hrouter hcfg

/-- An operation that changed nothing but the timer and ends with the level send (R320). -/
theorem BesideTimerKept.sent {s s' : State} (h : BesideTimerKept s s') : TimerChangedAndSent s (sendTimer s') := by
  obtain ⟨hnow, hcfg, hinput, hguest⟩ := h.environment
  refine ⟨?_, ?_, ?_, ⟨?_, ?_, ?_, fun a => ?_⟩, ?_⟩
  · rw [sendTimer_clock, h.clock]
  · rw [sendTimer_uart, h.uart]
  · rw [sendTimer_emitted, h.emitted]
  · rw [sendTimer_now, hnow]
  · rw [sendTimer_cfg, hcfg]
  · rw [sendTimer_input, hinput]
  · rw [sendTimer_guest, hguest]
  · rw [sendTimer_timer, sendTimer_router h.router hcfg]

/-- The firing before its level send: the alarm is gone, and the request of its channel is set where the channel is enabled (R319). -/
def fireRequest (a : Alarm) (t : Timer) : Timer :=
  { t.setChan a.ch { t.chan a.ch with ir := (t.chan a.ch).ir || (t.chan a.ch).en } with alarm := none }

theorem fireAlarm_eq (a : Alarm) (s : State) : fireAlarm a s = sendTimer (s.onTimer (fireRequest a)) := by
  obtain ⟨dl, ch⟩ := a
  cases ch <;> rfl

/-- A write to the timer window is an effect that leaves the router and the parameters alone, then the level send. -/
theorem exec_stm_write_router {i : Instr} {s t : State} {sz : Size} {off : Offset} (hf : i.form = .bus .write sz .stm off)
    (h : exec i s = .next t) : t.router = (setLevel s.cfg.timerSrc (t.timer.cmp0.ir || t.timer.cmp1.ir) s).router := by
  obtain ⟨s', r, hs, rfl⟩ := exec_bus_eq_next hf h
  rw [afterAccess_timer, afterAccess_stm_write]
  exact sendTimer_router (hs.router (by decide)) hs.cfg

theorem exec_evAlarm_router {s t : State} (h : exec .evAlarm s = .next t) :
    t.router = (setLevel s.cfg.timerSrc (t.timer.cmp0.ir || t.timer.cmp1.ir) s).router := by
  cases completed_of_exec h with
  | bus hf => cases hf
  | alarm a =>
    obtain ⟨_, _, _, _, hrouter⟩ := (besideTimerKept_onTimer (fireRequest a) s).sent
    rw [fireAlarm_eq]
    exact hrouter

/-- Settles O22: the level input gives the source its pending bit, and a read of the timer sends nothing. -/
theorem timerWritesAndAlarmsSendTheLevel : Obligations.TimerWritesAndAlarmsSendTheLevel := by
  unfold Obligations.TimerWritesAndAlarmsSendTheLevel
  refine ⟨fun i s t hi h => ?_, fun i s t sz off hf h => ?_⟩
  · have hrouter : t.router = (setLevel s.cfg.timerSrc (t.timer.cmp0.ir || t.timer.cmp1.ir) s).router := by
      rcases hi with ⟨sz, off, hf⟩ | rfl
      · exact exec_stm_write_router hf h
      · exact exec_evAlarm_router h
    refine ⟨hrouter, ?_⟩
    rw [hrouter, setLevel_source_same]
  · obtain ⟨s', r, hs, rfl⟩ := exec_bus_eq_next hf h
    exact hs.router (by decide)

/-! ### The counter (O36) -/

/-- The read of a tap whose side effect is `capture` with the upper half of the instant, then the report of the frequency query. -/
theorem tapReadsAs_of_readReg (w : Nat) {k : Nat} {rd : Size → Lane → Instr} {effect : State → State} {capture : Word → Timer → Timer}
    (hw : w % 4 = 0) (hwin : w + 4 ≤ 0x100)
    (hexec : ∀ sz lane s, exec (rd sz lane) s = readReg .stm w sz lane (fun s => tap s k) effect s)
    (heffect : ∀ s, effect s = reportTap (s.onTimer (capture (tap s 32)))) : TapReadsAs rd k capture := by
  intro s sz lane haligned
  refine ⟨_, (hexec sz lane s).trans
    (readReg_admitted _ _ (admission_unitRegister s.cfg .stm (by decide) w sz lane hw hwin haligned)), rfl, ?_⟩
  rw [heffect, afterAccess_stm_read]
  exact ⟨rfl, reports_congr (reports_report (s.onTimer _) _) rfl rfl, rfl, rfl, rfl, rfl, rfl, rfl, rfl, fun _ => rfl⟩

/-- Settles O36: tap by tap, by its shift and by what it captures. -/
theorem tapReadsShowOneInstantOfTheCounter : Obligations.TapReadsShowOneInstantOfTheCounter := by
  unfold Obligations.TapReadsShowOneInstantOfTheCounter
  refine ⟨fun _ => rfl, ?_, ?_, ?_, ?_, ?_, ?_, ?_, ?_⟩
  · exact tapReadsAs_of_readReg 0x10 (by decide) (by decide) (fun _ _ _ => rfl) fun _ => rfl
  · exact tapReadsAs_of_readReg 0x14 (by decide) (by decide) (fun _ _ _ => rfl) fun _ => rfl
  · exact tapReadsAs_of_readReg 0x18 (by decide) (by decide) (fun _ _ _ => rfl) fun _ => rfl
  · exact tapReadsAs_of_readReg 0x1C (by decide) (by decide) (fun _ _ _ => rfl) fun _ => rfl
  · exact tapReadsAs_of_readReg 0x20 (by decide) (by decide) (fun _ _ _ => rfl) fun _ => rfl
  · exact tapReadsAs_of_readReg 0x24 (by decide) (by decide) (fun _ _ _ => rfl) fun _ => rfl
  · exact tapReadsAs_of_readReg 0x28 (by decide) (by decide) (fun _ _ _ => rfl) fun _ => rfl
  · exact tapReadsAs_of_readReg 0x50 (by decide) (by decide) (fun _ _ _ => rfl) fun _ => rfl

/-! ### Register writes -/

/-- An aligned write of a timer register completes with its write rule on the timer and the trace, and sends the level (R85, R320). -/
theorem timerWrite_completes {i : Instr} {s : State} {w : Nat} {sz : Size} {lane : Lane} {data : Word} {cur : State → Word}
    {effect : Word → State → State} (hw : w % 4 = 0) (hwin : w + 4 ≤ 0x100) (haligned : Aligned sz lane)
    (hexec : exec i s = writeReg .stm w sz lane data cur effect s) (hkept : ∀ v, BesideTimerKept s (effect v s)) :
    ∃ t, exec i s = .next t ∧ t.result = .nothing ∧ t.timer = (effect (mergeLanes (cur s) data lane sz) s).timer ∧
      t.diag = (effect (mergeLanes (cur s) data lane sz) s).diag ∧ TimerChangedAndSent s t := by
  have hadm := admission_unitRegister s.cfg .stm (by decide) w sz lane hw hwin haligned
  refine ⟨_, hexec.trans (writeReg_admitted data cur effect hadm), by simp, by simp, by simp, ?_⟩
  exact ((hkept _).returning .nothing).sent

/-- What a completed write of a timer register leaves of the timer: its write rule's. -/
theorem writeReg_stm_timer {s t : State} {w : Nat} {sz : Size} {lane : Lane} {data : Word} {cur : State → Word}
    {effect : Word → State → State} (h : writeReg .stm w sz lane data cur effect s = .next t) :
    t.timer = (effect (mergeLanes (cur s) data lane sz) s).timer := by
  rw [writeReg_eq_next h]
  simp

/-! ### Arming (O41, O42) -/

/-- The alarm of channel `c` for the moment the counter next equals `v` (R317). -/
def matchAlarm (c : Channel) (v : Word) (s : State) : Alarm where
  deadline := s.now + ceilDiv ((v - tap s 0).toNat * 10 ^ 9) (timerFrequency s)
  ch := c

/-- Arming a channel after the update `f` of the timer, which does not move the counter: the alarm is the match of the channel's compare
value, where the channel is enabled and the timer domain runs (R317, R318). -/
theorem arm_onTimer_timer (c : Channel) (f : Timer → Timer) (s : State) (hcounter : (f s.timer).t0 = s.timer.t0) :
    (arm c (s.onTimer f)).timer = { f s.timer with
      alarm := if ((f s.timer).chan c).en = true ∧ 0 < timerFrequency s then some (matchAlarm c ((f s.timer).chan c).word s)
        else none } := by
  have htap : tap (s.onTimer f) 0 = tap s 0 := tap_congr s _ 0 rfl hcounter rfl rfl
  rw [arm_timer_eq, deadlineFor, htap]
  rfl

/-- The timer after a write of CMP0 or CMP1 (R292, R294). -/
theorem writeCompare_timer (c : Channel) (v : Word) (s : State) :
    (writeCompare c v s).timer = { s.timer.setChan c { s.timer.chan c with word := v } with
      alarm := if (s.timer.chan c).en = true ∧ 0 < timerFrequency s then some (matchAlarm c v s) else none } := by
  rw [writeCompare, arm_onTimer_timer _ _ _ (by simp), Timer.chan_setChan_same]

theorem writeCompare_kept (c : Channel) (v : Word) (s : State) : BesideTimerKept s (writeCompare c v s) :=
  (BusEffect.write (p := s.cfg) (.compare c) v).besideTimerKept

theorem exec_wrStmCmp0 (sz : Size) (lane : Lane) (data : Word) (s : State) : exec (.wrStmCmp0 sz lane data) s =
    writeReg .stm 0x30 sz lane data (fun s => (s.timer.chan .ch0).word) (writeCompare .ch0) s := rfl

theorem exec_wrStmCmp1 (sz : Size) (lane : Lane) (data : Word) (s : State) : exec (.wrStmCmp1 sz lane data) s =
    writeReg .stm 0x34 sz lane data (fun s => (s.timer.chan .ch1).word) (writeCompare .ch1) s := rfl

/-- An aligned write of the compare register of channel `c`: the write rule and the level send. -/
theorem compareWrite_completes {i : Instr} {s : State} {w : Nat} {sz : Size} {lane : Lane} {data : Word} (c : Channel)
    (hw : w % 4 = 0) (hwin : w + 4 ≤ 0x100) (haligned : Aligned sz lane)
    (hexec : exec i s = writeReg .stm w sz lane data (fun s => (s.timer.chan c).word) (writeCompare c) s) :
    ∃ t, exec i s = .next t ∧ t.result = .nothing ∧
      Reports s t (if (s.timer.chan c).en && Config.armingReports then derivedDiags s.clock .timer else []) ∧
      TimerChangedAndSent s t ∧ t.timer = (writeCompare c (mergeLanes (s.timer.chan c).word data lane sz) s).timer := by
  obtain ⟨t, hnext, hresult, htimer, hdiag, hsent⟩ := timerWrite_completes hw hwin haligned hexec fun v => writeCompare_kept c v s
  exact ⟨t, hnext, hresult, reports_congr (writeCompare_reports c _ s) rfl hdiag, hsent, htimer⟩

/-- Settles O41: the alarm a compare write leaves is the match of the merged word. -/
theorem compareWritesArmOneAlarm : Obligations.CompareWritesArmOneAlarm := by
  unfold Obligations.CompareWritesArmOneAlarm
  intro s sz lane data haligned f
  have h0 := compareWrite_completes .ch0 (by decide) (by decide) haligned (exec_wrStmCmp0 sz lane data s)
  have h1 := compareWrite_completes .ch1 (by decide) (by decide) haligned (exec_wrStmCmp1 sz lane data s)
  rw [writeCompare_timer] at h0 h1
  exact ⟨h0, h1⟩

/-- The timer with the enables and output selects of an ICR write and without an alarm (R141, R298). -/
def icrEnables (v : Word) (t : Timer) : Timer :=
  { t with cmp0 := { t.cmp0 with en := bit 0 v, os := bit 2 v }, cmp1 := { t.cmp1 with en := bit 4 v, os := bit 6 v }, alarm := none }

/-- An ICR write takes the enables and output selects and arms the lowest enabled channel. -/
theorem writeIcr_eq (v : Word) (s : State) : writeIcr v s =
    if bit 0 v then arm .ch0 (s.onTimer (icrEnables v)) else if bit 4 v then arm .ch1 (s.onTimer (icrEnables v))
    else s.onTimer (icrEnables v) := rfl

/-- The timer after an ICR write (R298). -/
theorem writeIcr_timer (v : Word) (s : State) :
    (writeIcr v s).timer = { icrEnables v s.timer with
      alarm := if timerFrequency s = 0 then none
        else if bit 0 v then some (matchAlarm .ch0 s.timer.cmp0.word s)
        else if bit 4 v then some (matchAlarm .ch1 s.timer.cmp1.word s) else none } := by
  have harm (c : Channel) := arm_onTimer_timer c (icrEnables v) s rfl
  have hfreq : 0 < timerFrequency s ↔ ¬ timerFrequency s = 0 := Nat.pos_iff_ne_zero
  rw [writeIcr_eq]
  by_cases h0 : bit 0 v = true
  · simp [h0, harm, Timer.chan, icrEnables, hfreq]
  · by_cases h4 : bit 4 v = true
    · simp [h0, h4, harm, Timer.chan, icrEnables, hfreq]
    · simp [h0, h4, icrEnables]

theorem writeIcr_kept (v : Word) (s : State) : BesideTimerKept s (writeIcr v s) :=
  (BusEffect.write (p := s.cfg) .icr v).besideTimerKept

theorem exec_wrStmIcr (sz : Size) (lane : Lane) (data : Word) (s : State) : exec (.wrStmIcr sz lane data) s =
    writeReg .stm 0x3C sz lane data (fun s => icrRead s.timer) writeIcr s := rfl

/-- Settles O42: an ICR write is its write rule and the level send. -/
theorem icrWriteArmsTheLowestEnabledChannel : Obligations.IcrWriteArmsTheLowestEnabledChannel := by
  unfold Obligations.IcrWriteArmsTheLowestEnabledChannel
  intro s sz lane data haligned f v
  obtain ⟨t, hnext, hresult, htimer, hdiag, hsent⟩ := timerWrite_completes (by decide) (by decide) haligned
    (exec_wrStmIcr sz lane data s) fun v => writeIcr_kept v s
  rw [writeIcr_timer] at htimer
  exact ⟨t, hnext, hresult, reports_congr (writeIcr_reports v s) rfl hdiag, hsent, htimer⟩

/-! ### The alarm (O44) -/

theorem exec_evAlarm_unarmed {s : State} (h : s.timer.alarm = none) : exec .evAlarm s = .refused .alarmNotArmed := by
  show execEvAlarm s = _
  simp [execEvAlarm, h]

theorem exec_evAlarm_early {s : State} {a : Alarm} (h : s.timer.alarm = some a) (hearly : s.now < a.deadline) :
    exec .evAlarm s = .refused .alarmNotDue := by
  show execEvAlarm s = _
  simp [execEvAlarm, h, hearly]

theorem exec_evAlarm_due {s : State} {a : Alarm} (h : s.timer.alarm = some a) (hdue : a.deadline ≤ s.now) :
    exec .evAlarm s = .next ((sendTimer (s.onTimer (fireRequest a))).returning .nothing) := by
  show execEvAlarm s = _
  simp [execEvAlarm, h, hdue, fireAlarm_eq]

/-- Settles O44: by whether an alarm is armed, and due. -/
theorem alarmFiresOnceAtOrAfterItsDeadline : Obligations.AlarmFiresOnceAtOrAfterItsDeadline := by
  unfold Obligations.AlarmFiresOnceAtOrAfterItsDeadline
  refine ⟨fun s a ha hdue => ?_, fun s => exec_evAlarm_unarmed, fun s a => exec_evAlarm_early⟩
  refine ⟨_, exec_evAlarm_due ha hdue, rfl, by simp, (besideTimerKept_onTimer (fireRequest a) s).sent, fun hch => ?_, fun hch => ?_⟩
  · simp [fireRequest, hch, Timer.setChan, Timer.chan]
  · simp [fireRequest, hch, Timer.setChan, Timer.chan]

/-! ### The deadline (O45) -/

/-- The quotient rounded up is not too small, and too large by less than one. -/
theorem ceilDiv_bounds (a : Nat) {b : Nat} (hb : 0 < b) : a ≤ ceilDiv a b * b ∧ ceilDiv a b * b < a + b := by
  have hle : ceilDiv a b * b ≤ a + b - 1 := Nat.div_mul_le_self _ b
  have hlt : a + b - 1 < ceilDiv a b * b + b := Nat.lt_div_mul_add hb
  omega

/-- The distance of a compare value `n` ahead of the counter (R317). -/
theorem toNat_add_ofNat_sub (x : Word) {n : Nat} (hn : n < 2 ^ 32) : (x + BitVec.ofNat 32 n - x).toNat = n := by
  rw [BitVec.add_comm, BitVec.add_sub_cancel, BitVec.toNat_ofNat, Nat.mod_eq_of_lt hn]

/-- Advancing the time by `d` nanoseconds, with `d * f` at least `n` seconds' worth, advances the counter by `n` at least (R270). -/
theorem counter_advances {now t0 d f n : Nat} (hstart : t0 ≤ now) (hreach : n * 10 ^ 9 ≤ d * f) :
    (now - t0) * f / 10 ^ 9 + n ≤ (now + d - t0) * f / 10 ^ 9 :=
  calc (now - t0) * f / 10 ^ 9 + n
      = ((now - t0) * f + n * 10 ^ 9) / 10 ^ 9 := (Nat.add_mul_div_right _ _ (by decide)).symm
    _ ≤ ((now - t0) * f + d * f) / 10 ^ 9 := Nat.div_le_div_right (Nat.add_le_add_left hreach _)
    _ = (now + d - t0) * f / 10 ^ 9 := by rw [← Nat.add_mul, ← Nat.sub_add_comm hstart]

/-- The alarm for a compare value `n` ahead of the counter is the match, rounded up to the next nanosecond (R317, R322). -/
theorem deadlineMatches_of_matchAlarm {s t : State} {c : Channel} {v : Word} {n : Nat} (hstart : s.timer.t0 ≤ s.now) (hn : n < 2 ^ 32)
    (hruns : 0 < timerFrequency s) (hv : v = tap s 0 + BitVec.ofNat 32 n) (halarm : t.timer.alarm = some (matchAlarm c v s)) :
    DeadlineMatches s t c n := by
  obtain ⟨hreach, hclose⟩ := ceilDiv_bounds (n * 10 ^ 9) hruns
  have hdeadline : (matchAlarm c v s).deadline = s.now + ceilDiv (n * 10 ^ 9) (timerFrequency s) := by
    rw [matchAlarm, hv, toNat_add_ofNat_sub _ hn]
  refine ⟨_, halarm, rfl, ?_⟩
  rw [hdeadline, Nat.add_sub_cancel_left]
  exact ⟨Nat.le_add_right _ _, hreach, hclose, counter_advances hstart hreach⟩

/-- A completed write of the compare register of an enabled channel arms it. -/
theorem compareWrite_alarm {s t : State} {w : Nat} {sz : Size} {lane : Lane} {data : Word} {c : Channel}
    (h : writeReg .stm w sz lane data (fun s => (s.timer.chan c).word) (writeCompare c) s = .next t)
    (hen : (s.timer.chan c).en = true) (hruns : 0 < timerFrequency s) :
    t.timer.alarm = some (matchAlarm c (mergeLanes (s.timer.chan c).word data lane sz) s) := by
  rw [writeReg_stm_timer h, writeCompare_timer]
  exact if_pos ⟨hen, hruns⟩

/-- A completed ICR write arms the lowest channel it enables. -/
theorem icrWrite_alarm {s t : State} {sz : Size} {lane : Lane} {data : Word} (h : exec (.wrStmIcr sz lane data) s = .next t)
    (hruns : 0 < timerFrequency s) : t.timer.alarm =
      if bit 0 (mergeLanes (icrRead s.timer) data lane sz) then some (matchAlarm .ch0 s.timer.cmp0.word s)
      else if bit 4 (mergeLanes (icrRead s.timer) data lane sz) then some (matchAlarm .ch1 s.timer.cmp1.word s) else none := by
  rw [exec_wrStmIcr] at h
  rw [writeReg_stm_timer h, writeIcr_timer]
  exact if_neg hruns.ne'

/-- Settles O45: each of the three writes leaves the match alarm of the channel's compare value. -/
theorem armedDeadlineIsTheMatchWithinOneNanosecond : Obligations.ArmedDeadlineIsTheMatchWithinOneNanosecond := by
  unfold Obligations.ArmedDeadlineIsTheMatchWithinOneNanosecond
  intro s t n sz lane data hstart hn hruns
  have hmatches {c : Channel} {v : Word} (hv : v = tap s 0 + BitVec.ofNat 32 n)
      (halarm : t.timer.alarm = some (matchAlarm c v s)) : DeadlineMatches s t c n :=
    deadlineMatches_of_matchAlarm hstart hn hruns hv halarm
  refine ⟨fun hen hv h => ?_, fun hen hv h => ?_, fun h => ⟨fun h0 hv => ?_, fun h0 h4 hv => ?_⟩⟩
  · rw [exec_wrStmCmp0] at h
    exact hmatches hv (compareWrite_alarm h hen hruns)
  · rw [exec_wrStmCmp1] at h
    exact hmatches hv (compareWrite_alarm h hen hruns)
  · exact hmatches hv ((icrWrite_alarm h hruns).trans (if_pos h0))
  · refine hmatches hv ?_
    rw [icrWrite_alarm h hruns, h0, h4]
    rfl

/-! ### Register reads (O37, O38) -/

/-- Settles O37: the ten reads have no side effect, and the timer sends nothing on reads. -/
theorem timerStorageReads : Obligations.TimerStorageReads := by
  unfold Obligations.TimerStorageReads
  have hstm : UnitId.stm = .ccu ∨ UnitId.stm = .stm := .inr rfl
  refine ⟨?_, ?_, ?_, ?_, ?_, ?_, ?_, ?_, ?_, ?_⟩
  · exact readsAs_of_readReg (w := 0x00) hstm (by decide) (by decide) fun _ _ _ => rfl
  · exact readsAs_of_readReg (w := 0x30) hstm (by decide) (by decide) fun _ _ _ => rfl
  · exact readsAs_of_readReg (w := 0x34) hstm (by decide) (by decide) fun _ _ _ => rfl
  · exact readsAs_of_readReg (w := 0x38) hstm (by decide) (by decide) fun _ _ _ => rfl
  · exact readsAs_of_readReg (w := 0xE8) hstm (by decide) (by decide) fun _ _ _ => rfl
  · exact readsAs_of_readReg (w := 0xEC) hstm (by decide) (by decide) fun _ _ _ => rfl
  · exact readsAs_of_readReg (w := 0xF0) hstm (by decide) (by decide) fun _ _ _ => rfl
  · exact readsAs_of_readReg (w := 0xF4) hstm (by decide) (by decide) fun _ _ _ => rfl
  · exact readsAs_of_readReg (w := 0xF8) hstm (by decide) (by decide) fun _ _ _ => rfl
  · exact readsAs_of_readReg (w := 0xFC) hstm (by decide) (by decide) fun _ _ _ => rfl

/-- ICR as a sum: its flags stand at different bits (R141, R297). -/
theorem icrRead_eq (t : Timer) : icrRead t =
    BitVec.ofNat 32 (t.cmp0.en.toNat + t.cmp0.ir.toNat * 2 + t.cmp0.os.toNat * 4 + t.cmp1.en.toNat * 16 + t.cmp1.ir.toNat * 32 +
      t.cmp1.os.toNat * 64) := by
  unfold icrRead
  generalize t.cmp0.en = en0, t.cmp0.ir = ir0, t.cmp0.os = os0, t.cmp1.en = en1, t.cmp1.ir = ir1, t.cmp1.os = os1
  revert en0 ir0 os0 en1 ir1 os1
  decide

/-- Settles O38: the five reads have no side effect either. -/
theorem timerOtherReads : Obligations.TimerOtherReads := by
  unfold Obligations.TimerOtherReads
  have hstm : UnitId.stm = .ccu ∨ UnitId.stm = .stm := .inr rfl
  refine ⟨?_, ?_, ?_, ?_, ?_⟩
  · exact readsAs_of_readReg (w := 0x08) hstm (by decide) (by decide) fun _ _ _ => rfl
  · exact readsAs_of_readReg (w := 0x2C) hstm (by decide) (by decide) fun _ _ _ => rfl
  · exact readsAs_of_readReg (w := 0x54) hstm (by decide) (by decide) fun _ _ _ => rfl
  · simp only [← icrRead_eq]
    exact readsAs_of_readReg (w := 0x3C) hstm (by decide) (by decide) fun _ _ _ => rfl
  · exact readsAs_of_readReg (w := 0x40) hstm (by decide) (by decide) fun _ _ _ => rfl

/-! ### Writes that arm nothing (O39, O40, O43) -/

/-- A timer register whose write rule is the update `upd` of the timer and no report. -/
theorem timerWrites_of_writeReg (w : Nat) {wr : Size → Lane → Word → Instr} {cur : State → Word} {effect : Word → State → State}
    {upd : Word → Timer → Timer} (hw : w % 4 = 0) (hwin : w + 4 ≤ 0x100)
    (hexec : ∀ sz lane data s, exec (wr sz lane data) s = writeReg .stm w sz lane data cur effect s)
    (heffect : ∀ v s, effect v s = s.onTimer (upd v)) : TimerWrites wr cur upd := by
  intro s sz lane data haligned
  obtain ⟨t, hnext, hresult, htimer, hdiag, hsent⟩ := timerWrite_completes hw hwin haligned (hexec sz lane data s) fun v =>
    heffect v s ▸ besideTimerKept_onTimer (upd v) s
  rw [heffect] at htimer hdiag
  exact ⟨t, hnext, hresult, htimer, hdiag, hsent⟩

/-- A timer register whose writes are ignored: its current word does not matter. -/
theorem timerIgnores_of_writeReg (w : Nat) {wr : Size → Lane → Word → Instr} {cur : State → Word} (hw : w % 4 = 0)
    (hwin : w + 4 ≤ 0x100)
    (hexec : ∀ sz lane data s, exec (wr sz lane data) s = writeReg .stm w sz lane data cur ignoreWrite s) :
    TimerWrites wr (fun _ => 0#32) fun _ t => t :=
  timerWrites_of_writeReg (cur := cur) (upd := fun _ t => t) w hw hwin hexec fun _ _ => rfl

/-- Settles O39: each of the eight write rules stores the word. -/
theorem timerStorageWrites : Obligations.TimerStorageWrites := by
  unfold Obligations.TimerStorageWrites
  refine ⟨?_, ?_, ?_, ?_, ?_, ?_, ?_, ?_⟩
  · exact timerWrites_of_writeReg 0x00 (by decide) (by decide) (fun _ _ _ _ => rfl) fun _ _ => rfl
  · exact timerWrites_of_writeReg 0x38 (by decide) (by decide) (fun _ _ _ _ => rfl) fun _ _ => rfl
  · exact timerWrites_of_writeReg 0xE8 (by decide) (by decide) (fun _ _ _ _ => rfl) fun _ _ => rfl
  · exact timerWrites_of_writeReg 0xEC (by decide) (by decide) (fun _ _ _ _ => rfl) fun _ _ => rfl
  · exact timerWrites_of_writeReg 0xF0 (by decide) (by decide) (fun _ _ _ _ => rfl) fun _ _ => rfl
  · exact timerWrites_of_writeReg 0xF4 (by decide) (by decide) (fun _ _ _ _ => rfl) fun _ _ => rfl
  · exact timerWrites_of_writeReg 0xF8 (by decide) (by decide) (fun _ _ _ _ => rfl) fun _ _ => rfl
  · exact timerWrites_of_writeReg 0xFC (by decide) (by decide) (fun _ _ _ _ => rfl) fun _ _ => rfl

/-- Settles O40: each of the eleven write rules ignores the word. -/
theorem timerIgnoredWrites : Obligations.TimerIgnoredWrites := by
  unfold Obligations.TimerIgnoredWrites
  refine ⟨?_, ?_, ?_, ?_, ?_, ?_, ?_, ?_, ?_, ?_, ?_⟩
  · exact timerIgnores_of_writeReg 0x08 (by decide) (by decide) fun _ _ _ _ => rfl
  · exact timerIgnores_of_writeReg 0x10 (by decide) (by decide) fun _ _ _ _ => rfl
  · exact timerIgnores_of_writeReg 0x14 (by decide) (by decide) fun _ _ _ _ => rfl
  · exact timerIgnores_of_writeReg 0x18 (by decide) (by decide) fun _ _ _ _ => rfl
  · exact timerIgnores_of_writeReg 0x1C (by decide) (by decide) fun _ _ _ _ => rfl
  · exact timerIgnores_of_writeReg 0x20 (by decide) (by decide) fun _ _ _ _ => rfl
  · exact timerIgnores_of_writeReg 0x24 (by decide) (by decide) fun _ _ _ _ => rfl
  · exact timerIgnores_of_writeReg 0x28 (by decide) (by decide) fun _ _ _ _ => rfl
  · exact timerIgnores_of_writeReg 0x2C (by decide) (by decide) fun _ _ _ _ => rfl
  · exact timerIgnores_of_writeReg 0x50 (by decide) (by decide) fun _ _ _ _ => rfl
  · exact timerIgnores_of_writeReg 0x54 (by decide) (by decide) fun _ _ _ _ => rfl

/-- Settles O43: the request commands are clear then set. -/
theorem iscrWriteClearsThenSetsRequests : Obligations.IscrWriteClearsThenSetsRequests := by
  unfold Obligations.IscrWriteClearsThenSetsRequests
  simp only [← clearThenSet_eq]
  exact timerWrites_of_writeReg 0x40 (by decide) (by decide) (fun _ _ _ _ => rfl) fun _ _ => rfl

end Sys2Proof.Machine
end

section
/-! O21 and O46 to O60 without O59: the UART (R330 to R394). An access to the UART, an RX and a WRITABLE change nothing but the UART and the
traces and then send the three levels (`BesideUartKept.sent`); a register's statement is that and its own rule on the UART. A transmit
item is dispatched alike from TXDATA and from the block length, and the receive ring is read as the list `buffered`. -/

namespace Sys2Proof.Machine

/-! ### What an operation of the UART keeps, and the level sends (O21) -/

/-- Nothing changed but the UART, the traces and what the operation returns: what an operation of the UART makes of `s` before its level
sends. -/
structure BesideUartKept (s t : State) : Prop where
  router : t.router = s.router
  clock : t.clock = s.clock
  timer : t.timer = s.timer
  environment : EnvironmentKept s t

/-- The effect of an access to the UART keeps the other units and the environment. -/
theorem BusEffect.besideUartKept {p : Params} {s s' : State} (he : BusEffect p .uart s s') : BesideUartKept s s' where
  router := he.onlyUnitChanged.router (by decide)
  clock := he.onlyUnitChanged.clock (by decide)
  timer := he.onlyUnitChanged.timer (by decide)
  environment := by
    obtain ⟨hnow, hguest⟩ := he.now_guest
    exact ⟨hnow, he.onlyUnitChanged.cfg, he.input, fun _ => by rw [hguest]⟩

theorem besideUartKept_onUart (f : Uart → Uart) (s : State) : BesideUartKept s (s.onUart f) :=
  ⟨rfl, rfl, rfl, rfl, rfl, rfl, fun _ => rfl⟩

theorem BesideUartKept.report {s t : State} (h : BesideUartKept s t) (ds : List Diag) : BesideUartKept s (t.report ds) :=
  ⟨h.router, h.clock, h.timer, h.environment⟩

theorem BesideUartKept.returning {s t : State} (h : BesideUartKept s t) (r : Result) : BesideUartKept s (t.returning r) :=
  ⟨h.router, h.clock, h.timer, h.environment⟩

theorem BesideUartKept.transmit {s t : State} (h : BesideUartKept s t) (item : TxItem) (ans : Answer) :
    BesideUartKept s (transmit item ans t) := by
  obtain ⟨hnow, hcfg, hinput, hguest⟩ := h.environment
  refine ⟨?_, ?_, ?_, ?_, ?_, ?_, fun a => ?_⟩
  · rw [transmit_router, h.router]
  · rw [transmit_clock, h.clock]
  · rw [transmit_timer, h.timer]
  · rw [transmit_now, hnow]
  · rw [transmit_cfg, hcfg]
  · rw [transmit_input, hinput]
  · rw [transmit_guest, hguest]

/-- An operation that changed nothing but the UART and the traces and ends with the level sends (R391). -/
theorem BesideUartKept.sent {s s' : State} (h : BesideUartKept s s') : UartChangedAndSent s (sendUart s') := by
  obtain ⟨hnow, hcfg, hinput, hguest⟩ := h.environment
  refine ⟨?_, ?_, ⟨?_, ?_, ?_, fun a => ?_⟩, ?_⟩
  · rw [sendUart_clock, h.clock]
  · rw [sendUart_timer, h.timer]
  · rw [sendUart_now, hnow]
  · rw [sendUart_cfg, hcfg]
  · rw [sendUart_input, hinput]
  · rw [sendUart_guest, hguest]
  · exact sendUart_router_congr h.router hcfg (sendUart_uart s').symm

theorem receive_sent (bytes : List Byte) (s : State) : UartChangedAndSent s ((receive bytes s).returning .nothing) :=
  ((besideUartKept_onUart _ s).report _).sent

/-- The second delivery attempt of WRITABLE: the retry disarmed, the item offered, the levels sent (R388). -/
def offerAgain (item : TxItem) (ans : Answer) (s : State) : State :=
  sendUart (transmit item ans (s.onUart fun u => { u with retryArmed := false }))

theorem offerAgain_sent (item : TxItem) (ans : Answer) (s : State) :
    UartChangedAndSent s ((offerAgain item ans s).returning .nothing) :=
  ((besideUartKept_onUart _ s).transmit item ans).sent

/-- The operation is an access to the UART window, an RX or a WRITABLE: the operations that send the UART's levels (R391). -/
def SendsUartLevels (i : Instr) : Prop :=
  (∃ d sz off, i.form = .bus d sz .uart off) ∨ (∃ bytes, i = .evRx bytes) ∨ ∃ ans, i = .evWritable ans

/-- Each of them, where it completes, changes nothing beside the UART and sends the three levels. -/
theorem exec_uart_sent {i : Instr} {s t : State} (hi : SendsUartLevels i) (h : exec i s = .next t) : UartChangedAndSent s t := by
  rcases hi with ⟨d, sz, off, hf⟩ | ⟨bytes, rfl⟩ | ⟨ans, rfl⟩
  · cases completed_of_exec h with
    | bus hf' he r =>
      cases hf.symm.trans hf'
      exact (he.besideUartKept.returning r).sent
    | _ => cases hf
  · cases completed_of_exec h with
    | bus hf => cases hf
    | rx => exact receive_sent bytes s
  · cases completed_of_exec h with
    | bus hf => cases hf
    | writable _ item => exact offerAgain_sent item ans s

/-- The router after the UART `u` sent its levels from `s`: the level inputs RX, TX, ERR in this order (R391, R332). -/
theorem sendUart_replaced_router (u : Uart) (s : State) : (sendUart { s with uart := u }).router =
    (setLevel s.cfg.uartErrSrc (errLevel u) (setLevel s.cfg.uartTxSrc (txLevel u) (setLevel s.cfg.uartRxSrc (rxLevel u) s))).router :=
  setLevel_router_congr _ _ (setLevel_router_congr _ _ (setLevel_router_congr _ _ rfl rfl) (by simp)) (by simp)

/-- Settles O21: the level inputs give the three distinct sources their pending bits. -/
theorem uartOperationsSendTheThreeLevels : Obligations.UartOperationsSendTheThreeLevels := by
  unfold Obligations.UartOperationsSendTheThreeLevels
  intro i s t hwf hi h
  obtain ⟨_, _, _, hrouter⟩ := exec_uart_sent hi h
  obtain ⟨⟨_, _, _, hrxtx, hrxerr, htxerr⟩, _⟩ := hwf
  obtain ⟨hrx, htx, herr⟩ := sendUart_pending { s with uart := t.uart } hrxtx hrxerr htxerr
  refine ⟨hrouter.trans (sendUart_replaced_router t.uart s), ?_, ?_, ?_⟩
  · rw [hrouter, hrx]
    exact decide_eq_true_iff
  · rw [hrouter, htx]
    exact decide_eq_true_iff
  · rw [hrouter, herr]
    exact decide_eq_true_iff

/-! ### Register reads (O46 to O48, O54) -/

/-- An aligned access to a declared UART register is admitted. -/
theorem admission_uartRegister (p : Params) {w : Nat} (hw : w % 4 = 0) (hwin : w + 4 ≤ 0x100) {sz : Size} {lane : Lane}
    (haligned : Aligned sz lane) : admission (windowSize p .uart) (w + lane.val) sz = none :=
  admission_unitRegister p .uart (by decide) w sz lane hw hwin haligned

/-- An admitted read of a UART register completes with its side effect on the UART and the traces, and sends the levels (R87, R391). -/
theorem uartRead_completes {i : Instr} {s : State} {w : Nat} {sz : Size} {lane : Lane} {cur : State → Word} {effect : State → State}
    (hadm : admission (windowSize s.cfg .uart) (w + lane.val) sz = none) (hexec : exec i s = readReg .uart w sz lane cur effect s)
    (hkept : BesideUartKept s (effect s)) :
    ∃ t, exec i s = .next t ∧ t.result = .data (selectLanes (cur s) lane sz) ∧ t.uart = (effect s).uart ∧
      t.emitted = (effect s).emitted ∧ t.diag = (effect s).diag ∧ UartChangedAndSent s t :=
  ⟨_, hexec.trans (readReg_admitted cur effect hadm), by simp, by simp, by simp, by simp, (hkept.returning _).sent⟩

/-- A UART register whose read has the side effect `upd` on the UART. -/
theorem uartReadsAs_of_readReg (w : Nat) {rd : Size → Lane → Instr} {cur : State → Word} {effect : State → State} {upd : Uart → Uart}
    (hw : w % 4 = 0) (hwin : w + 4 ≤ 0x100) (hexec : ∀ sz lane s, exec (rd sz lane) s = readReg .uart w sz lane cur effect s)
    (heffect : ∀ s, effect s = s.onUart upd) : UartReadsAs rd cur upd := by
  intro s sz lane haligned
  have h := uartRead_completes (admission_uartRegister s.cfg hw hwin haligned) (hexec sz lane s)
    (heffect s ▸ besideUartKept_onUart upd s)
  rw [heffect] at h
  exact h

/-- Settles O46: the ten reads have no side effect. -/
theorem uartLineRegisterReads : Obligations.UartLineRegisterReads := by
  unfold Obligations.UartLineRegisterReads
  refine ⟨?_, ?_, ?_, ?_, ?_, ?_, ?_, ?_, ?_, ?_⟩
  · exact uartReadsAs_of_readReg 0x00 (by decide) (by decide) (fun _ _ _ => rfl) fun _ => rfl
  · exact uartReadsAs_of_readReg 0x04 (by decide) (by decide) (fun _ _ _ => rfl) fun _ => rfl
  · exact uartReadsAs_of_readReg 0x14 (by decide) (by decide) (fun _ _ _ => rfl) fun _ => rfl
  · exact uartReadsAs_of_readReg 0x18 (by decide) (by decide) (fun _ _ _ => rfl) fun _ => rfl
  · exact uartReadsAs_of_readReg 0x1C (by decide) (by decide) (fun _ _ _ => rfl) fun _ => rfl
  · exact uartReadsAs_of_readReg 0x20 (by decide) (by decide) (fun _ _ _ => rfl) fun _ => rfl
  · exact uartReadsAs_of_readReg 0x24 (by decide) (by decide) (fun _ _ _ => rfl) fun _ => rfl
  · exact uartReadsAs_of_readReg 0x28 (by decide) (by decide) (fun _ _ _ => rfl) fun _ => rfl
  · exact uartReadsAs_of_readReg 0x2C (by decide) (by decide) (fun _ _ _ => rfl) fun _ => rfl
  · exact uartReadsAs_of_readReg 0x30 (by decide) (by decide) (fun _ _ _ => rfl) fun _ => rfl

/-- Settles O47: neither have these ten. -/
theorem uartControlRegisterReads : Obligations.UartControlRegisterReads := by
  unfold Obligations.UartControlRegisterReads
  refine ⟨?_, ?_, ?_, ?_, ?_, ?_, ?_, ?_, ?_, ?_⟩
  · exact uartReadsAs_of_readReg 0x0C (by decide) (by decide) (fun _ _ _ => rfl) fun _ => rfl
  · exact uartReadsAs_of_readReg 0x10 (by decide) (by decide) (fun _ _ _ => rfl) fun _ => rfl
  · exact uartReadsAs_of_readReg 0x40 (by decide) (by decide) (fun _ _ _ => rfl) fun _ => rfl
  · exact uartReadsAs_of_readReg 0x4C (by decide) (by decide) (fun _ _ _ => rfl) fun _ => rfl
  · exact uartReadsAs_of_readReg 0xE8 (by decide) (by decide) (fun _ _ _ => rfl) fun _ => rfl
  · exact uartReadsAs_of_readReg 0xEC (by decide) (by decide) (fun _ _ _ => rfl) fun _ => rfl
  · exact uartReadsAs_of_readReg 0xF0 (by decide) (by decide) (fun _ _ _ => rfl) fun _ => rfl
  · exact uartReadsAs_of_readReg 0xF4 (by decide) (by decide) (fun _ _ _ => rfl) fun _ => rfl
  · exact uartReadsAs_of_readReg 0xF8 (by decide) (by decide) (fun _ _ _ => rfl) fun _ => rfl
  · exact uartReadsAs_of_readReg 0xFC (by decide) (by decide) (fun _ _ _ => rfl) fun _ => rfl

/-- FLAGS as the statements write it: RFL is 0 iff the cursors agree, TFL is 1 (R331). -/
theorem flagsRead_eq (u : Uart) : flagsRead u =
    (u.flags &&& 0x4FFFE06F#32) ||| (if u.rd = u.wr then 0#32 else 0x10000000#32) ||| 0x80000000#32 := by
  by_cases h : u.rd = u.wr <;> simp [flagsRead, flagAt, flagsStored, h]

/-- Settles O48: the six words are computed, and reading them has no side effect. -/
theorem uartComputedReads : Obligations.UartComputedReads := by
  unfold Obligations.UartComputedReads
  refine ⟨?_, ?_, ?_, ?_, ?_, ?_⟩
  · exact uartReadsAs_of_readReg 0x08 (by decide) (by decide) (fun _ _ _ => rfl) fun _ => rfl
  · simp only [← flagsRead_eq]
    exact uartReadsAs_of_readReg 0x34 (by decide) (by decide) (fun _ _ _ => rfl) fun _ => rfl
  · exact uartReadsAs_of_readReg 0x38 (by decide) (by decide) (fun _ _ _ => rfl) fun _ => rfl
  · exact uartReadsAs_of_readReg 0x3C (by decide) (by decide) (fun _ _ _ => rfl) fun _ => rfl
  · exact uartReadsAs_of_readReg 0x44 (by decide) (by decide) (fun _ _ _ => rfl) fun _ => rfl
  · exact uartReadsAs_of_readReg 0x50 (by decide) (by decide) (fun _ _ _ => rfl) fun _ => rfl

/-- The next cursor, modulo 8192 (R34). -/
theorem cursor_succ (c : Cursor) : c + 1 = Fin.ofNat 8192 (c.val + 1) := Fin.ext (Fin.val_add c 1)

theorem advanceRx_eq (s : State) :
    advanceRx s = s.onUart fun u => { u with rd := if u.rd = u.wr then u.rd else Fin.ofNat 8192 (u.rd.val + 1) } := by
  unfold advanceRx
  congr 1
  funext u
  by_cases h : u.rd = u.wr
  · rw [if_neg (not_not.mpr h), if_pos h]
  · rw [if_pos h, if_neg h, cursor_succ]

/-- Settles O54: the one read of the UART that has a side effect. -/
theorem rxdataReadTakesTheOldestByte : Obligations.RxdataReadTakesTheOldestByte := by
  unfold Obligations.RxdataReadTakesTheOldestByte
  exact uartReadsAs_of_readReg 0x48 (by decide) (by decide) (fun _ _ _ => rfl) advanceRx_eq

/-! ### Register writes (O49 to O52) -/

/-- An admitted write of a UART register completes with its write rule on the UART and the traces, and sends the levels (R85, R391). -/
theorem uartWrite_completes {i : Instr} {s : State} {w : Nat} {sz : Size} {lane : Lane} {data : Word} {cur : State → Word}
    {effect : Word → State → State} (hadm : admission (windowSize s.cfg .uart) (w + lane.val) sz = none)
    (hexec : exec i s = writeReg .uart w sz lane data cur effect s) (hkept : ∀ v, BesideUartKept s (effect v s)) :
    ∃ t, exec i s = .next t ∧ t.result = .nothing ∧ t.uart = (effect (mergeLanes (cur s) data lane sz) s).uart ∧
      t.emitted = (effect (mergeLanes (cur s) data lane sz) s).emitted ∧
      t.diag = (effect (mergeLanes (cur s) data lane sz) s).diag ∧ UartChangedAndSent s t :=
  ⟨_, hexec.trans (writeReg_admitted data cur effect hadm), by simp, by simp, by simp, by simp, ((hkept _).returning .nothing).sent⟩

/-- A UART register whose write rule is the update `upd` of the UART. -/
theorem uartWrites_of_writeReg (w : Nat) {wr : Size → Lane → Word → Instr} {cur : State → Word} {upd : Word → Uart → Uart}
    (hw : w % 4 = 0) (hwin : w + 4 ≤ 0x100)
    (hexec : ∀ sz lane data s, exec (wr sz lane data) s = writeReg .uart w sz lane data cur (fun v s => s.onUart (upd v)) s) :
    UartWrites wr cur upd := fun s sz lane data haligned =>
  uartWrite_completes (admission_uartRegister s.cfg hw hwin haligned) (hexec sz lane data s) fun v => besideUartKept_onUart (upd v) s

/-- A UART register whose writes are ignored: its current word `cur` does not matter. -/
theorem uartIgnores_of_writeReg (w : Nat) (cur : State → Word) {wr : Size → Lane → Word → Instr} (hw : w % 4 = 0)
    (hwin : w + 4 ≤ 0x100)
    (hexec : ∀ sz lane data s, exec (wr sz lane data) s = writeReg .uart w sz lane data cur ignoreWrite s) :
    UartWrites wr (fun _ => 0#32) fun _ u => u :=
  uartWrites_of_writeReg (cur := cur) (upd := fun _ u => u) w hw hwin hexec

/-- Settles O49: each of the ten write rules stores the word. -/
theorem uartLineRegisterWrites : Obligations.UartLineRegisterWrites := by
  unfold Obligations.UartLineRegisterWrites
  refine ⟨?_, ?_, ?_, ?_, ?_, ?_, ?_, ?_, ?_, ?_⟩
  · exact uartWrites_of_writeReg 0x00 (by decide) (by decide) fun _ _ _ _ => rfl
  · exact uartWrites_of_writeReg 0x04 (by decide) (by decide) fun _ _ _ _ => rfl
  · exact uartWrites_of_writeReg 0x14 (by decide) (by decide) fun _ _ _ _ => rfl
  · exact uartWrites_of_writeReg 0x18 (by decide) (by decide) fun _ _ _ _ => rfl
  · exact uartWrites_of_writeReg 0x1C (by decide) (by decide) fun _ _ _ _ => rfl
  · exact uartWrites_of_writeReg 0x20 (by decide) (by decide) fun _ _ _ _ => rfl
  · exact uartWrites_of_writeReg 0x24 (by decide) (by decide) fun _ _ _ _ => rfl
  · exact uartWrites_of_writeReg 0x28 (by decide) (by decide) fun _ _ _ _ => rfl
  · exact uartWrites_of_writeReg 0x2C (by decide) (by decide) fun _ _ _ _ => rfl
  · exact uartWrites_of_writeReg 0x30 (by decide) (by decide) fun _ _ _ _ => rfl

/-- Settles O50: so do these nine, TXFIFOCON's but for bit 0. -/
theorem uartControlRegisterWrites : Obligations.UartControlRegisterWrites := by
  unfold Obligations.UartControlRegisterWrites
  refine ⟨?_, ?_, ?_, ?_, ?_, ?_, ?_, ?_, ?_⟩
  · exact uartWrites_of_writeReg 0x40 (by decide) (by decide) fun _ _ _ _ => rfl
  · exact uartWrites_of_writeReg 0x4C (by decide) (by decide) fun _ _ _ _ => rfl
  · exact uartWrites_of_writeReg 0xE8 (by decide) (by decide) fun _ _ _ _ => rfl
  · exact uartWrites_of_writeReg 0xEC (by decide) (by decide) fun _ _ _ _ => rfl
  · exact uartWrites_of_writeReg 0xF0 (by decide) (by decide) fun _ _ _ _ => rfl
  · exact uartWrites_of_writeReg 0xF4 (by decide) (by decide) fun _ _ _ _ => rfl
  · exact uartWrites_of_writeReg 0xF8 (by decide) (by decide) fun _ _ _ _ => rfl
  · exact uartWrites_of_writeReg 0xFC (by decide) (by decide) fun _ _ _ _ => rfl
  · exact uartWrites_of_writeReg 0x0C (by decide) (by decide) fun _ _ _ _ => rfl

/-- Settles O51: the two commands act on the stored flags alone, and the other four write rules ignore the word. -/
theorem uartFlagCommandsAndIgnoredWrites : Obligations.UartFlagCommandsAndIgnoredWrites := by
  unfold Obligations.UartFlagCommandsAndIgnoredWrites
  refine ⟨?_, ?_, ?_, ?_, ?_, ?_⟩
  · exact uartWrites_of_writeReg 0x38 (by decide) (by decide) fun _ _ _ _ => rfl
  · exact uartWrites_of_writeReg 0x3C (by decide) (by decide) fun _ _ _ _ => rfl
  · exact uartIgnores_of_writeReg 0x08 (fun s => s.cfg.uartId) (by decide) (by decide) fun _ _ _ _ => rfl
  · exact uartIgnores_of_writeReg 0x34 (fun s => flagsRead s.uart) (by decide) (by decide) fun _ _ _ _ => rfl
  · exact uartIgnores_of_writeReg 0x48 (fun s => rxdataRead s.uart) (by decide) (by decide) fun _ _ _ _ => rfl
  · exact uartIgnores_of_writeReg 0x50 (fun s => rxdataRead s.uart) (by decide) (by decide) fun _ _ _ _ => rfl

/-- RFO and RFU, the flags a flush clears (R151, R342). -/
theorem flushedFlags_eq : (1#32 <<< 26) ||| (1#32 <<< 27) = 0x0C000000#32 := by decide

/-- What an RXFIFOCON write makes of the UART, field by field (R342). -/
theorem writeRxfifocon_fields (v : Word) (s : State) : (writeRxfifocon v s).uart =
    { s.uart with
      rxfifocon := v &&& ~~~1#32
      rd := if bit 0 v then s.uart.wr else s.uart.rd
      flags := if bit 0 v then s.uart.flags &&& ~~~0x0C000000#32 else s.uart.flags } := by
  rw [writeRxfifocon_uart]
  split
  · rw [← flushedFlags_eq]; rfl
  · rfl

/-- The resume request of an RXFIFOCON write: with ENI and a transport (R342). -/
theorem writeRxfifocon_emitted (v : Word) (s : State) : (writeRxfifocon v s).emitted =
    s.emitted ++ (if bit 1 v = true ∧ s.cfg.transportPresent = true then [.acceptInput] else []) := by
  have hflush : (if bit 0 v = true then s.onUart flushRx else s).emitted = s.emitted := by split <;> rfl
  by_cases h : bit 1 v = true ∧ s.cfg.transportPresent = true <;> simp [writeRxfifocon, h, hflush]

/-- Settles O52: the write rule's effect on the UART and its resume request. -/
theorem rxfifoconWriteFlushesAndRequestsResume : Obligations.RxfifoconWriteFlushesAndRequestsResume := by
  unfold Obligations.RxfifoconWriteFlushesAndRequestsResume
  intro s sz lane data haligned
  obtain ⟨t, hnext, hresult, huart, hemitted, hdiag, hsent⟩ :=
    uartWrite_completes (i := .wrUartRxfifocon sz lane data) (s := s) (w := 0x10) (data := data) (cur := fun s => s.uart.rxfifocon)
      (admission_uartRegister s.cfg (by decide) (by decide) haligned) rfl fun v =>
        (BusEffect.write (p := s.cfg) .rxfifocon v).besideUartKept
  rw [writeRxfifocon_fields] at huart
  rw [writeRxfifocon_emitted] at hemitted
  rw [writeRxfifocon_diag] at hdiag
  exact ⟨t, hnext, hresult, hdiag, hsent, huart, hemitted⟩

/-! ### The transmit path (O53, O57, O58) -/

/-- A delivery attempt depends on the requests and guest memory before it, and shows in the requests and the UART after it. -/
theorem Delivered.congr {item : TxItem} {ans : Answer} {u : Uart} {s s' t t' : State} (h : Delivered item ans u s t)
    (hemitted : s'.emitted = s.emitted) (hguest : s'.guest = s.guest) (hemitted' : t'.emitted = t.emitted) (huart' : t'.uart = t.uart) :
    Delivered item ans u s' t' := by
  unfold Delivered at *
  rwa [hemitted, hguest, hemitted', huart']

/-- The dispatch of an item depends on the parameters besides. -/
theorem Dispatched.congr {item : TxItem} {ans : Answer} {u : Uart} {s s' t t' : State} (h : Dispatched item ans u s t)
    (hcfg : s'.cfg = s.cfg) (hemitted : s'.emitted = s.emitted) (hguest : s'.guest = s.guest) (hemitted' : t'.emitted = t.emitted)
    (huart' : t'.uart = t.uart) : Dispatched item ans u s' t' := by
  obtain ⟨hnone, hbusy, hfree⟩ := h
  unfold Dispatched
  rw [hcfg, hemitted, hemitted', huart']
  exact ⟨hnone, hbusy, fun hp hr => (hfree hp hr).congr hemitted hguest hemitted' huart'⟩

/-- One delivery attempt, in the terms of the statements (R387). -/
theorem transmit_delivered (item : TxItem) (ans : Answer) (s : State) : Delivered item ans s.uart s (transmit item ans s) := by
  refine ⟨?_, ?_, ?_⟩
  · cases ans <;> rfl
  · rintro rfl; rfl
  · rintro rfl; rfl

theorem length_itemBytes_block (g : Memory) (len addr : Word) : (itemBytes g (.block len addr)).length = len.toNat := by
  simp [itemBytes]

/-- Byte `k` of a block is the guest memory byte at `addr + k` (R387; log 11). -/
theorem getElem?_itemBytes_block (g : Memory) (len addr : Word) {k : Nat} (hk : k < len.toNat) :
    (itemBytes g (.block len addr))[k]? = some (Memory.read g (addr.toNat + k)) := by
  simp [itemBytes, hk]

/-- Settles O53: the write rule dispatches the item. -/
theorem txdataWriteDispatchesTheByte : Obligations.TxdataWriteDispatchesTheByte := by
  unfold Obligations.TxdataWriteDispatchesTheByte
  refine ⟨fun s sz lane data ans haligned => ?_, fun _ _ => rfl, fun g len addr =>
    ⟨length_itemBytes_block g len addr, fun _ => getElem?_itemBytes_block g len addr⟩⟩
  obtain ⟨t, hnext, hresult, huart, hemitted, hdiag, hsent⟩ :=
    uartWrite_completes (i := .wrUartTxdata sz lane data ans) (s := s) (w := 0x44) (data := data) (cur := fun _ => 0#32)
      (effect := fun v s => sendItem (.byte (v.extractLsb' 0 8)) ans s)
      (admission_uartRegister s.cfg (by decide) (by decide) haligned) rfl fun v =>
        (BusEffect.write (p := s.cfg) (.txdata ans) v).besideUartKept
  rw [sendItem_diag] at hdiag
  exact ⟨t, hnext, hresult, hdiag, hsent, (sendItem_dispatched _ ans s).congr rfl rfl rfl hemitted huart⟩

theorem exec_evWritable_armed {s : State} {item : TxItem} (ans : Answer) (htr : s.cfg.transportPresent = true)
    (hr : s.uart.retryArmed = true) (hp : s.uart.txPend = some item) :
    exec (.evWritable ans) s = .next ((offerAgain item ans s).returning .nothing) := by
  show execEvWritable ans s = _
  simp only [execEvWritable, htr, hr, hp, if_true]
  rfl

theorem exec_evWritable_refused {s : State} (ans : Answer)
    (h : s.cfg.transportPresent = false ∨ s.uart.retryArmed = false ∨ s.uart.txPend = none) :
    ∃ r, exec (.evWritable ans) s = .refused r := by
  show ∃ r, execEvWritable ans s = _
  unfold execEvWritable
  split
  · next htr =>
    split
    · next hr hp => simp [htr, hr, hp] at h
    · exact ⟨_, rfl⟩
  · exact ⟨_, rfl⟩

/-- Settles O57: the attempt is made from the UART with the retry disarmed. -/
theorem writableOffersThePendingItemAgain : Obligations.WritableOffersThePendingItemAgain := by
  unfold Obligations.WritableOffersThePendingItemAgain
  refine ⟨fun s ans item htr hr hp => ?_, fun s ans => exec_evWritable_refused ans⟩
  refine ⟨_, exec_evWritable_armed ans htr hr hp, rfl, by simp [offerAgain], offerAgain_sent item ans s, ?_⟩
  exact (transmit_delivered item ans (s.onUart fun u => { u with retryArmed := false })).congr rfl rfl (by simp [offerAgain])
    (by simp [offerAgain])

theorem blkRegAt_addr {p : Params} {off : Offset} (hblk : p.blkPresent = true) (h : wordOffset off = p.blkAddrOff) :
    blkRegAt p off = some .addr := by
  simp [blkRegAt, hblk, h]

/-- The length register is at its own offset, where that is not the address register's (D42; log 20). -/
theorem blkRegAt_len {p : Params} {off : Offset} (hblk : p.blkPresent = true) (hne : p.blkAddrOff ≠ p.blkLenOff)
    (h : wordOffset off = p.blkLenOff) : blkRegAt p off = some .len := by
  simp [blkRegAt, hblk, h, hne.symm]

theorem wordOffset_of_blkRegAt_len {p : Params} {off : Offset} (h : blkRegAt p off = some .len) : wordOffset off = p.blkLenOff := by
  unfold blkRegAt at h
  split at h
  · split at h
    · cases h
    · split at h
      · assumption
      · cases h
  · cases h

/-- Admission at a byte offset, as the access through its word offset and lane sees it (R82). -/
theorem admission_wordOffset {p : Params} {sz : Size} {off : Offset} (h : Admitted p .uart off sz) :
    admission (windowSize p .uart) (wordOffset off + (laneOf off).val) sz = none := by
  rw [wordOffset_laneOf]
  exact (admission_eq_none_iff _ _ _).mpr h

theorem writeBlkLen_zero (ans : Answer) (s : State) : writeBlkLen ans 0#32 s = s.onUart fun u => { u with blkLen := 0#32 } := rfl

/-- A positive length dispatches the block at `blkAddr` from the UART that holds the length (R393). -/
theorem writeBlkLen_dispatched (ans : Answer) {v : Word} (hv : v ≠ 0#32) (s : State) :
    Dispatched (.block v s.uart.blkAddr) ans { s.uart with blkLen := v } s (writeBlkLen ans v s) := by
  have hsend : writeBlkLen ans v s = sendItem (.block v s.uart.blkAddr) ans (s.onUart fun u => { u with blkLen := v }) := if_neg hv
  rw [hsend]
  exact (sendItem_dispatched _ ans (s.onUart fun u => { u with blkLen := v })).congr rfl rfl rfl rfl rfl

/-- Settles O58: at each offset of the pair the register found there is read and written. -/
theorem blockTransferPair : Obligations.BlockTransferPair := by
  unfold Obligations.BlockTransferPair
  intro s sz off data ans hwf hblk hadmitted
  have hadm := admission_wordOffset hadmitted
  obtain ⟨_, _, hpair⟩ := hwf
  obtain ⟨_, _, hne⟩ := hpair hblk
  refine ⟨fun hoff => ?_, fun hoff => ?_⟩
  · have hreg := blkRegAt_addr hblk hoff
    have hread : exec (.rdUartUndeclared sz off) s =
        readReg .uart (wordOffset off) sz (laneOf off) (fun s => s.uart.blkAddr) id s := by
      show execRdUartUndeclared sz off s = _
      simp only [execRdUartUndeclared, hreg]
    have hwrite : exec (.wrUartUndeclared sz off data ans) s =
        writeReg .uart (wordOffset off) sz (laneOf off) data (fun s => s.uart.blkAddr)
          (fun v s => s.onUart fun u => { u with blkAddr := v }) s := by
      show execWrUartUndeclared sz off data ans s = _
      simp only [execWrUartUndeclared, hreg]
    exact ⟨uartRead_completes hadm hread (besideUartKept_onUart id s),
      uartWrite_completes hadm hwrite fun _ => besideUartKept_onUart _ s⟩
  · have hreg := blkRegAt_len hblk hne hoff
    have hread : exec (.rdUartUndeclared sz off) s =
        readReg .uart (wordOffset off) sz (laneOf off) (fun s => s.uart.blkLen) id s := by
      show execRdUartUndeclared sz off s = _
      simp only [execRdUartUndeclared, hreg]
    have hwrite : exec (.wrUartUndeclared sz off data ans) s =
        writeReg .uart (wordOffset off) sz (laneOf off) data (fun s => s.uart.blkLen) (writeBlkLen ans) s := by
      show execWrUartUndeclared sz off data ans s = _
      simp only [execWrUartUndeclared, hreg]
    refine ⟨uartRead_completes hadm hread (besideUartKept_onUart id s), ?_⟩
    obtain ⟨t, hnext, hresult, huart, hemitted, hdiag, hsent⟩ := uartWrite_completes hadm hwrite fun v =>
      (BusEffect.write (p := s.cfg) (.blkLen hblk ans) v).besideUartKept
    rw [writeBlkLen_diag] at hdiag
    refine ⟨t, hnext, hresult, hdiag, hsent, fun hv => ?_, fun hv => ?_⟩
    · rw [hv, writeBlkLen_zero] at huart hemitted
      exact ⟨by rw [huart, hv]; rfl, hemitted⟩
    · exact (writeBlkLen_dispatched ans hv s).congr rfl rfl rfl hemitted huart

/-! ### The receive path (O55, O56) -/

theorem receive_uart (bytes : List Byte) (s : State) : (receive bytes s).uart = (pushBurst bytes s.uart).1 := by
  simp [receive]

/-- A burst reports the number of bytes it drops, once, and nothing where it drops none (R389, R403). -/
theorem receive_diag (bytes : List Byte) (s : State) : (receive bytes s).diag =
    s.diag ++ (if 0 < (pushBurst bytes s.uart).2 then [[.receiveOverflow (pushBurst bytes s.uart).2]] else []) := by
  unfold receive
  dsimp only
  rw [sendUart_diag, State.report_diag, State.onUart_diag]
  split <;> simp_all

theorem exec_evRx {s : State} (bytes : List Byte) (htr : s.cfg.transportPresent = true) :
    exec (.evRx bytes) s = .next ((receive bytes s).returning .nothing) := if_pos htr

theorem ringFree_eq (u : Uart) : ringFree u = 8191 - ((u.wr.val + 8192 - u.rd.val) % 8192) := by
  rw [ringFree, ringUsed_eq]

/-- Settles O55: what the burst does to the ring, with the report of what it drops. -/
theorem rxBurstFillsTheRingAndDropsTheRest : Obligations.RxBurstFillsTheRingAndDropsTheRest := by
  unfold Obligations.RxBurstFillsTheRingAndDropsTheRest
  refine ⟨fun s bytes htr => ?_, fun s bytes htr => if_neg (by simp [htr])⟩
  rw [← ringFree_eq]
  intro n
  obtain ⟨hwr, hdropped, hslots, hother⟩ := pushBurst_spec bytes s.uart n rfl
  refine ⟨_, exec_evRx bytes htr, rfl, by simp, receive_sent bytes s, ?_⟩
  rw [State.returning_uart, State.returning_diag, receive_uart, receive_diag, hdropped]
  exact ⟨by rw [pushBurst_frame, hwr], hslots, hother, congrArg (s.diag ++ ·) (if_congr Nat.sub_pos_iff_lt rfl rfl)⟩

@[simp] theorem length_buffered (u : Uart) : (buffered u).length = ringUsed u := by
  simp [buffered]

/-- The slot `k` places after the read cursor is the write cursor's iff `k` bytes are buffered (R34). -/
theorem rd_add_eq_wr_iff (u : Uart) {k : Nat} (hk : k ≤ ringUsed u) : u.rd + Fin.ofNat 8192 k = u.wr ↔ k = ringUsed u := by
  have hlt := ringUsed_lt u
  have hrd := u.rd.isLt
  have hwr := u.wr.isLt
  rw [Fin.ext_iff, Fin.val_add, Fin.val_ofNat]
  rw [ringUsed_eq] at *
  omega

/-- A received byte goes behind the buffered ones (R389, R394). -/
theorem buffered_pushByte (b : Byte) {u : Uart} (hfree : 0 < ringFree u) : buffered (pushByte b u) = buffered u ++ [b] := by
  unfold buffered
  rw [ringUsed_pushByte b u hfree, List.range_succ, List.map_append]
  congr 1
  · refine List.map_congr_left fun k hk => ?_
    have hk : k < ringUsed u := List.mem_range.mp hk
    rw [ringByte_pushByte]
    exact if_neg fun e => hk.ne ((rd_add_eq_wr_iff u hk.le).mp e)
  · rw [List.map_singleton, ringByte_pushByte]
    exact congrArg (· :: []) (if_pos ((rd_add_eq_wr_iff u le_rfl).mpr rfl))

/-- A burst appends its first bytes, as many as fit (R394). -/
theorem buffered_pushBurst (bytes : List Byte) (u : Uart) :
    buffered (pushBurst bytes u).1 = buffered u ++ bytes.take (ringFree u) := by
  induction bytes generalizing u with
  | nil => simp [pushBurst]
  | cons b rest ih =>
    by_cases hfree : 0 < ringFree u
    · have hnext : ringFree u = ringFree (pushByte b u) + 1 := by
        have hused := ringUsed_pushByte b u hfree
        unfold ringFree at *
        omega
      have hpush : pushBurst (b :: rest) u = pushBurst rest (pushByte b u) := if_pos hfree
      rw [hpush, ih, buffered_pushByte b hfree, hnext, List.take_succ_cons, List.append_assoc, List.singleton_append]
    · have hfull : ringFree u = 0 := Nat.eq_zero_of_not_pos hfree
      rw [pushBurst_full _ _ hfull, hfull, List.take_zero, List.append_nil]

/-- The oldest byte of a ring that is not empty stands at the read cursor, and advancing it leaves the others in order (R369). -/
theorem buffered_eq_cons {u : Uart} (h : u.rd ≠ u.wr) :
    buffered u = ringByte u u.rd :: buffered { u with rd := u.rd + 1 } := by
  have hused : ringUsed u = ringUsed { u with rd := u.rd + 1 } + 1 := by
    have hrd := u.rd.isLt
    have hwr := u.wr.isLt
    have hne : u.rd.val ≠ u.wr.val := fun e => h (Fin.ext e)
    have hnext : (u.rd + 1).val = (u.rd.val + 1) % 8192 := Fin.val_add u.rd 1
    rw [ringUsed_eq, ringUsed_eq]
    simp only [hnext]
    omega
  unfold buffered
  rw [hused, List.range_succ_eq_map, List.map_cons, List.map_map]
  congr 1
  · simp
  · refine List.map_congr_left fun k _ => ?_
    have hslot : u.rd + Fin.ofNat 8192 (k + 1) = u.rd + 1 + Fin.ofNat 8192 k := by
      apply Fin.ext
      simp only [Fin.val_add, Fin.val_ofNat, Fin.val_one]
      omega
    exact congrArg (ringByte u) hslot

theorem buffered_eq_nil {u : Uart} (h : u.rd = u.wr) : buffered u = [] := by
  have hused : ringUsed u = 0 := by simp [ringUsed, h]
  rw [buffered, hused]
  rfl

/-- An RXDATA read takes the oldest byte of a ring that holds one. -/
theorem rxdataRead_takes_oldest {s : State} {b : Byte} {rest : List Byte} (h : buffered s.uart = b :: rest) :
    rxdataRead s.uart = b.setWidth 32 ∧ buffered (advanceRx s).uart = rest := by
  have hne : s.uart.rd ≠ s.uart.wr := fun e => by simp [buffered_eq_nil e] at h
  have hadvance : (advanceRx s).uart = { s.uart with rd := s.uart.rd + 1 } := if_pos hne
  rw [buffered_eq_cons hne] at h
  obtain ⟨hb, hrest⟩ := List.cons.inj h
  exact ⟨congrArg _ hb, hadvance ▸ hrest⟩

/-- Settles O56: the count of a burst is the length of what it appends, and its overflow the length of what it drops. -/
theorem receiveRingIsAFifo : Obligations.ReceiveRingIsAFifo := by
  unfold Obligations.ReceiveRingIsAFifo
  refine ⟨fun s t bytes h => ?_, fun s t b rest sz lane hbuf h => ?_, length_buffered, fun u => by simp [canReceive]⟩
  · cases completed_of_exec h with
    | bus hf => cases hf
    | rx =>
      have happend := buffered_pushBurst bytes s.uart
      have hlength := congrArg List.length happend
      obtain ⟨_, hdropped, _, _⟩ := pushBurst_spec bytes s.uart _ rfl
      rw [List.length_append, length_buffered, length_buffered, List.length_take] at hlength
      rw [State.returning_uart, State.returning_diag, receive_uart, receive_diag, hdropped, hlength]
      refine ⟨happend, fun hfits => ?_, fun hover => ?_⟩
      · simp [Nat.min_eq_left hfits, Nat.min_eq_right hfits]
      · have hused := ringUsed_lt s.uart
        have hfree : ringFree s.uart = 8191 - ringUsed s.uart := rfl
        rw [Nat.min_eq_left hover.le, Nat.min_eq_right hover.le, if_pos (Nat.sub_pos_of_lt hover)]
        exact ⟨by omega, rfl⟩
  · obtain ⟨hvalue, hrest⟩ := rxdataRead_takes_oldest hbuf
    have ht : t = afterAccess .uart .read ((advanceRx s).returning (.data (selectLanes (rxdataRead s.uart) lane sz))) :=
      readReg_eq_next (cur := fun s => rxdataRead s.uart) h
    rw [ht, hvalue]
    exact ⟨by simp, by simpa using hrest⟩

/-! ### Who sets and who clears a stored flag (O60) -/

/-- From `f` to `g` only flags of `up` became 1 and only flags of `down` became 0. -/
def FlagsMove (up down : Nat → Prop) (f g : Word) : Prop :=
  ∀ k, (bit k f = false → bit k g = true → up k) ∧ (bit k f = true → bit k g = false → down k)

section FlagsMove

variable {up down : Nat → Prop} {f g m : Word}

theorem flagsMove_of_eq (h : g = f) : FlagsMove up down f g := by
  subst h
  refine fun k => ⟨fun h0 h1 => ?_, fun h1 h0 => ?_⟩ <;> simp [h0] at h1

/-- Setting the flags of `m` sets flags of `m` alone (R40). -/
theorem flagsMove_or (hm : ∀ k, bit k m = true → up k) : FlagsMove up down f (f ||| m) := by
  intro k
  have hor : bit k (f ||| m) = (bit k f || bit k m) := BitVec.getLsbD_or
  rw [hor]
  refine ⟨fun h0 h1 => hm k ?_, fun h1 h0 => ?_⟩
  · simpa [h0] using h1
  · simp [h1] at h0

/-- Clearing the flags of `m` clears flags of `m` alone (R40). -/
theorem flagsMove_and_not (hm : ∀ k, bit k m = true → down k) : FlagsMove up down f (f &&& ~~~m) := by
  intro k
  have hand : bit k (f &&& ~~~m) = (bit k f && (decide (k < 32) && !bit k m)) := by simp [bit]
  rw [hand]
  refine ⟨fun h0 h1 => ?_, fun h1 h0 => hm k ?_⟩
  · simp [h0] at h1
  · have hk : k < 32 := BitVec.lt_of_getLsbD h1
    simpa [h1, hk] using h0

theorem flagsMove_zero (hdown : ∀ k, down k) : FlagsMove up down f 0#32 :=
  fun k => ⟨fun _ h1 => absurd h1 (by simp [bit]), fun _ _ => hdown k⟩

end FlagsMove

theorem bit_flagTc {k : Nat} (h : bit k flagTc = true) : k = 17 := by
  have hbits : ∀ j < 32, bit j flagTc = true → j = 17 := by decide
  exact hbits k (BitVec.lt_of_getLsbD h) h

theorem bit_flushedFlags {k : Nat} (h : bit k 0x0C000000#32 = true) : k = 26 ∨ k = 27 := by
  have hbits : ∀ j < 32, bit j 0x0C000000#32 = true → j = 26 ∨ j = 27 := by decide
  exact hbits k (BitVec.lt_of_getLsbD h) h

/-- The operation may set the stored flag `k` (R362, R368, R387, R388, R393, R473). -/
def MaySetFlag (i : Instr) (s : State) (k : Nat) : Prop :=
  (∃ sz lane data, i = .wrUartFlagsset sz lane data) ∨ (k = 17 ∧ CanCompleteATransmission i s) ∨ ∃ b, i = .evRestore b

/-- The operation may clear the stored flag `k` (R364, R342, R455, R473). -/
def MayClearFlag (i : Instr) (k : Nat) : Prop :=
  (∃ sz lane data, i = .wrUartFlagsclear sz lane data) ∨ ((k = 26 ∨ k = 27) ∧ ∃ sz lane data, i = .wrUartRxfifocon sz lane data) ∨
    i = .evReset .uart ∨ i = .evResetAll ∨ ∃ b, i = .evRestore b

/-- What an operation that completes owes O60: every stored flag that changed is one it may change. -/
abbrev FlagsMoveBy (i : Instr) (s t : State) : Prop := FlagsMove (MaySetFlag i s) (MayClearFlag i) s.uart.flags t.uart.flags

theorem flagsMoveBy_of_uart_eq {i : Instr} {s t : State} (h : t.uart = s.uart) : FlagsMoveBy i s t :=
  flagsMove_of_eq (congrArg Uart.flags h)

/-- A delivery attempt sets TC alone (R387). -/
theorem transmit_flagsMove {up down : Nat → Prop} (hup : up 17) (item : TxItem) (ans : Answer) (s : State) :
    FlagsMove up down s.uart.flags (transmit item ans s).uart.flags := by
  rw [transmit_uart]
  cases ans with
  | accepted => exact flagsMove_or fun k hk => bit_flagTc hk ▸ hup
  | wouldBlock => exact flagsMove_of_eq rfl

/-- So does the dispatch of an item (R368). -/
theorem sendItem_flagsMove {up down : Nat → Prop} (hup : up 17) (item : TxItem) (ans : Answer) (s : State) :
    FlagsMove up down s.uart.flags (sendItem item ans s).uart.flags := by
  rcases sendItem_cases s item ans with ⟨_, e⟩ | ⟨_, _, _, e⟩ | ⟨_, _, _, e⟩ | ⟨_, _, e⟩ <;> rw [e]
  · exact flagsMove_or fun k hk => bit_flagTc hk ▸ hup
  · exact flagsMove_of_eq rfl
  · exact flagsMove_of_eq rfl
  · exact transmit_flagsMove hup item ans s

theorem writeBlkLen_flagsMove {up down : Nat → Prop} (hup : up 17) (ans : Answer) (v : Word) (s : State) :
    FlagsMove up down s.uart.flags (writeBlkLen ans v s).uart.flags := by
  unfold writeBlkLen
  dsimp only
  split
  · exact flagsMove_of_eq rfl
  · exact sendItem_flagsMove hup _ ans (s.onUart fun u => { u with blkLen := v })

/-- An RXFIFOCON write clears RFO and RFU alone (R342). -/
theorem writeRxfifocon_flagsMove {up down : Nat → Prop} (hdown : ∀ k, k = 26 ∨ k = 27 → down k) (v : Word) (s : State) :
    FlagsMove up down s.uart.flags (writeRxfifocon v s).uart.flags := by
  rw [writeRxfifocon_fields]
  dsimp only
  split
  · exact flagsMove_and_not fun k hk => hdown k (bit_flushedFlags hk)
  · exact flagsMove_of_eq rfl

/-- What a completed write of a UART register leaves of the UART: its write rule's. -/
theorem writeReg_uart {s t : State} {w : Nat} {sz : Size} {lane : Lane} {data : Word} {cur : State → Word}
    {effect : Word → State → State} (h : writeReg .uart w sz lane data cur effect s = .next t) :
    t.uart = (effect (mergeLanes (cur s) data lane sz) s).uart := by
  rw [writeReg_eq_next h]
  simp

/-- A register whose write rule leaves the flags alone. -/
theorem flagsMove_storage {up down : Nat → Prop} {s t : State} {w : Nat} {sz : Size} {lane : Lane} {data : Word} {cur : State → Word}
    {effect : Word → State → State} (h : writeReg .uart w sz lane data cur effect s = .next t)
    (heffect : ∀ v, (effect v s).uart.flags = s.uart.flags) : FlagsMove up down s.uart.flags t.uart.flags := by
  rw [writeReg_uart h]
  exact flagsMove_of_eq (heffect _)

/-- A read changes nothing of the UART but the read cursor (R90). -/
theorem flagsMoveBy_read {i : Instr} {s t : State} {sz : Size} {u : UnitId} {off : Offset} (hf : i.form = .bus .read sz u off)
    (h : exec i s = .next t) : FlagsMoveBy i s t := by
  obtain ⟨val, hr⟩ := reads_of_form hf
  rw [hr.exec_eq] at h
  obtain rfl : t = afterRead i u (val s) s := access_eq_next _ _ _ _ _ _ h
  have hflags : (afterRead i u (val s) s).uart.flags = s.uart.flags := by
    rw [afterRead_uart, (readEffect_frame i s).uart]
  exact flagsMove_of_eq hflags

/-- An undeclared write leaves the flags alone, but for a positive block length, which dispatches the block (R84, R392, R393). -/
theorem flagsMoveBy_wrUartUndeclared {s t : State} {sz : Size} {off : Offset} {data : Word} {ans : Answer}
    (h : exec (.wrUartUndeclared sz off data ans) s = .next t) : FlagsMoveBy (.wrUartUndeclared sz off data ans) s t := by
  change execWrUartUndeclared sz off data ans s = .next t at h
  unfold execWrUartUndeclared at h
  split at h
  · exact flagsMove_storage h fun _ => rfl
  · next hreg =>
    have hcan : MaySetFlag (.wrUartUndeclared sz off data ans) s 17 :=
      .inr (.inl ⟨rfl, .inr (.inr ⟨blkRegAt_present hreg, sz, off, data, ans, rfl, wordOffset_of_blkRegAt_len hreg⟩)⟩)
    rw [FlagsMoveBy, writeReg_uart h]
    exact writeBlkLen_flagsMove hcan ans _ s
  · rw [writeUndeclared_eq_next h]
    exact flagsMoveBy_of_uart_eq (by simp)

/-- Every write of the UART, row by row: five rules touch the flags, the others store their word or ignore it. -/
theorem flagsMoveBy_uart_write {i : Instr} {s t : State} {sz : Size} {off : Offset} (hf : i.form = .bus .write sz .uart off)
    (h : exec i s = .next t) : FlagsMoveBy i s t := by
  cases i <;> cases hf
  case wrUartFlagsset lane data =>
    dsimp only [exec, execWrUartFlagsset] at h
    rw [FlagsMoveBy, writeReg_uart h]
    exact flagsMove_or fun _ _ => .inl ⟨_, _, _, rfl⟩
  case wrUartFlagsclear lane data =>
    dsimp only [exec, execWrUartFlagsclear] at h
    rw [FlagsMoveBy, writeReg_uart h]
    exact flagsMove_and_not fun _ _ => .inl ⟨_, _, _, rfl⟩
  case wrUartRxfifocon lane data =>
    dsimp only [exec, execWrUartRxfifocon] at h
    rw [FlagsMoveBy, writeReg_uart h]
    exact writeRxfifocon_flagsMove (fun _ hk => .inr (.inl ⟨hk, _, _, _, rfl⟩)) _ s
  case wrUartTxdata lane data ans =>
    dsimp only [exec, execWrUartTxdata] at h
    rw [FlagsMoveBy, writeReg_uart h]
    exact sendItem_flagsMove (.inr (.inl ⟨rfl, .inl ⟨_, _, _, _, rfl⟩⟩)) _ ans s
  case wrUartUndeclared data ans => exact flagsMoveBy_wrUartUndeclared h
  all_goals
    dsimp only [exec, execWrUartClc, execWrUartIocr, execWrUartId, execWrUartTxfifocon, execWrUartBitcon, execWrUartFramecon,
      execWrUartDatcon, execWrUartBrg, execWrUartBrd, execWrUartLincon, execWrUartLinbtimer, execWrUartLinhtimer, execWrUartFlags,
      execWrUartFlagsenable, execWrUartRxdata, execWrUartCsr, execWrUartRxdatad, execWrUartOcs, execWrUartKrstclr, execWrUartKrst1,
      execWrUartKrst0, execWrUartAccen1, execWrUartAccen0] at h
    exact flagsMove_storage h fun _ => rfl

/-- Every bus access: another unit's leaves the UART alone. -/
theorem flagsMoveBy_bus {i : Instr} {s t : State} {d : Dir} {sz : Size} {u : UnitId} {off : Offset} (hf : i.form = .bus d sz u off)
    (h : exec i s = .next t) : FlagsMoveBy i s t := by
  by_cases hu : u = .uart
  · subst hu
    cases d with
    | read => exact flagsMoveBy_read hf h
    | write => exact flagsMoveBy_uart_write hf h
  · obtain ⟨s', r, hs, rfl⟩ := exec_bus_eq_next hf h
    exact flagsMoveBy_of_uart_eq (by simp [hs.uart hu])

theorem flagsMoveBy_evReset (u : UnitId) (s : State) : FlagsMoveBy (.evReset u) s ((resetUnit u s).returning .nothing) := by
  cases u with
  | ir | ccu | stm => exact flagsMoveBy_of_uart_eq (by simp [resetUnit])
  | uart =>
    have hflags : (resetUnit .uart s).uart.flags = 0#32 := by simp [resetUnit, Uart.resetValue]
    rw [FlagsMoveBy, State.returning_uart, hflags]
    exact flagsMove_zero fun _ => .inr (.inr (.inl rfl))

theorem flagsMoveBy_evResetAll (s : State) : FlagsMoveBy .evResetAll s ((resetAll s).returning .nothing) := by
  have hflags : (resetAll s).uart.flags = 0#32 := by simp [Uart.resetValue]
  rw [FlagsMoveBy, State.returning_uart, hflags]
  exact flagsMove_zero fun _ => .inr (.inr (.inr (.inl rfl)))

/-- Every operation that completes changes only the flags it may change. -/
theorem exec_flagsMoveBy {i : Instr} {s t : State} (h : exec i s = .next t) : FlagsMoveBy i s t := by
  cases completed_of_exec h with
  | bus hf => exact flagsMoveBy_bus hf h
  | reset u => exact flagsMoveBy_evReset u s
  | resetAll => exact flagsMoveBy_evResetAll s
  | time | lock | snapshot => exact flagsMoveBy_of_uart_eq rfl
  | alarm | level => exact flagsMoveBy_of_uart_eq (by simp)
  | rx bytes =>
    rw [FlagsMoveBy, State.returning_uart, receive_uart, pushBurst_frame]
    exact flagsMove_of_eq rfl
  | writable ans item =>
    rw [FlagsMoveBy, State.returning_uart, sendUart_uart]
    exact transmit_flagsMove (.inr (.inl ⟨rfl, .inr (.inl ⟨_, rfl⟩)⟩)) item ans (s.onUart fun u => { u with retryArmed := false })
  | restore b => exact fun _ => ⟨fun _ _ => .inr (.inr ⟨b, rfl⟩), fun _ _ => .inr (.inr (.inr (.inr ⟨b, rfl⟩)))⟩

/-- Settles O60: operation by operation, the flags that moved. -/
theorem flagsChangeOnlyThroughTheirWriters : Obligations.FlagsChangeOnlyThroughTheirWriters := by
  unfold Obligations.FlagsChangeOnlyThroughTheirWriters
  exact fun i s t k h => exec_flagsMoveBy h k

end Sys2Proof.Machine
end

section
/-! O13: nothing faults but construction (R402, R401, R420). A bus access is the access algorithm of R82, which completes or refuses; an
event completes, or is refused where its condition fails; a step is the operation it decodes, or a refusal. -/

namespace Sys2Proof.Machine

theorem exec_bus_ne_fault {i : Instr} (hb : IsBus i) (s : State) (f : Fault) : exec i s ≠ .fault f := by
  obtain ⟨d, sz, u, off, hf⟩ := hb
  obtain ⟨body, hbody⟩ := (exec_bus i s hf).eq_access
  rw [hbody]
  exact access_ne_fault u off.val sz body s f

theorem exec_evAlarm_ne_fault (s : State) (f : Fault) : exec .evAlarm s ≠ .fault f := by
  cases ha : s.timer.alarm with
  | none => rw [exec_evAlarm_unarmed ha]; nofun
  | some a =>
    by_cases hdue : a.deadline ≤ s.now
    · rw [exec_evAlarm_due ha hdue]; nofun
    · rw [exec_evAlarm_early ha (Nat.lt_of_not_le hdue)]; nofun

theorem exec_evWritable_ne_fault (ans : Answer) (s : State) (f : Fault) : exec (.evWritable ans) s ≠ .fault f := by
  by_cases h : s.cfg.transportPresent = false ∨ s.uart.retryArmed = false ∨ s.uart.txPend = none
  · obtain ⟨r, hr⟩ := exec_evWritable_refused ans h
    rw [hr]; nofun
  · simp only [not_or, Bool.not_eq_false, Option.ne_none_iff_exists'] at h
    obtain ⟨htr, hr, item, hp⟩ := h
    rw [exec_evWritable_armed ans htr hr hp]; nofun

/-- An event under a condition faults in neither case. -/
theorem ite_ne_fault {c : Prop} [Decidable c] {o o' : Outcome} {f : Fault} (ho : o ≠ .fault f) (ho' : o' ≠ .fault f) :
    (if c then o else o') ≠ .fault f := by
  split
  · exact ho
  · exact ho'

/-- No operation faults: every bus access, and the ten events (R402). -/
theorem exec_ne_fault (i : Instr) (s : State) (f : Fault) : exec i s ≠ .fault f := by
  cases i
  case evReset | evResetAll | evTime | evLock | evSnapshot => exact nofun
  case evAlarm => exact exec_evAlarm_ne_fault s f
  case evWritable ans => exact exec_evWritable_ne_fault ans s f
  case evRx | evLevel | evRestore => exact ite_ne_fault nofun nofun
  all_goals exact exec_bus_ne_fault ⟨_, _, _, _, rfl⟩ s f

/-- No step faults: one without an operation, or with one the decoder refuses, is a refusal. -/
theorem step_ne_fault (s : State) (f : Fault) : step s ≠ .fault f := by
  cases hin : s.input with
  | nil => simp [step, hin]
  | cons e rest =>
    cases hdec : decode e.op with
    | error r => simp [step, hin, hdec]
    | ok i =>
      rw [step_of_decode hin hdec]
      exact exec_ne_fault i (takeEntry e rest s) f

theorem construct_without_cpu (hasClock : Bool) (p : Params) :
    construct false hasClock p = .fault (.missingRequiredCollaborator .cpuConsumer) := rfl

theorem construct_without_clock (p : Params) : construct true false p = .fault (.missingRequiredCollaborator .clockUnit) := rfl

theorem construct_of_wf {p : Params} (h : p.wf) : construct true true p = .next (State.init p) := if_pos h

/-- Settles O13: no step and no operation faults; construction faults without the CPU consumer or the clock unit. -/
theorem onlyConstructionFaults : Obligations.OnlyConstructionFaults := by
  unfold Obligations.OnlyConstructionFaults
  exact ⟨step_ne_fault, exec_ne_fault, construct_without_cpu, construct_without_clock, fun _ => construct_of_wf⟩

end Sys2Proof.Machine
end

section
/-! O7 to O9, O18, O27 and O59: the resets (R450 to R456), the hazards of the dividers and of narrow source writes (R459, R468), and
snapshot and restore (R472, R473). A reset is the unit's reset value and its level sends; a source word's write keeps the fields whose
byte lanes it leaves alone; a restore is the blob's state and `evaluate()`, which changes nothing where the output agrees already. -/

namespace Sys2Proof.Machine

/-! ### The whole block (O7) -/

/-- A block is its four units and the time. -/
theorem Block.eq_of_units {b b' : Block} (hrouter : b.router = b'.router) (hclock : b.clock = b'.clock) (htimer : b.timer = b'.timer)
    (huart : b.uart = b'.uart) (hnow : b.now = b'.now) : b = b' := by
  cases b
  cases b'
  rw [Block.mk.injEq]
  exact ⟨hrouter, hclock, htimer, huart, hnow⟩

/-- At time 0 with the PLL locked the block's reset is the power-on state (R456). -/
theorem resetAll_toBlock {s : State} (hnow : s.now = 0) (hlocked : s.clock.pllLocked = true) :
    (resetAll s).toBlock = Block.powerOn := by
  apply Block.eq_of_units
  · exact resetAll_router s
  · rw [resetAll_clock, hlocked]
    rfl
  · rw [resetAll_timer, hnow]
    rfl
  · exact resetAll_uart s
  · rw [resetAll_now, hnow]
    rfl

/-- Settles O7: each unit holds its reset value, the clock unit's with the lock input and the timer's with the time. -/
theorem resetAllGivesThePowerOnState : Obligations.ResetAllGivesThePowerOnState := by
  unfold Obligations.ResetAllGivesThePowerOnState
  intro s
  have hkept : EnvironmentKept s ((resetAll s).returning .nothing) := ⟨by simp, by simp, by simp, by simp⟩
  refine ⟨(resetAll s).returning .nothing, rfl, ?_⟩
  simp only [State.returning_router, State.returning_clock, State.returning_timer, State.returning_uart, State.returning_emitted,
    State.returning_diag, State.returning_result, resetAll_router, resetAll_clock, resetAll_timer, resetAll_uart, resetAll_emitted,
    resetAll_diag, true_and]
  exact ⟨Router.source_resetValue, rfl, rfl, rfl, rfl, rfl, hkept, resetAll_toBlock, rfl⟩

/-! ### The resets of one unit (O8, O9) -/

/-- After a clock reset the PLL is in Prescaler mode with factor 1 on the second input, which the timer domain divides by 1 (R42, R453). -/
theorem derivedClock_resetValue_timer (p : Params) (locked : Bool) : derivedClock p (Clock.resetValue locked) .timer = p.fIn1 := by
  have hbypass : bit 0 0x00000001#32 = true := by decide
  have hmode : clockMode (Clock.resetValue locked) = .prescaler := if_pos hbypass
  have hinsel : bits 29 28 0x11000100#32 = 1 := by decide
  have hfactor : bits 22 16 0x00000000#32 + 1 = 1 := by decide
  have hpll : pllFrequency p (Clock.resetValue locked) = p.fIn1 := by
    obtain ⟨_, hsecond, _⟩ := oscillatorFrequency_cases p (Clock.resetValue locked)
    rw [pllFrequency_prescaler p hmode, hsecond hinsel, Clock.resetValue, hfactor, Nat.div_one]
  have hdivider : establishedDivider (Clock.resetValue locked).est .timer = 1#4 := rfl
  rw [derivedClock, hdivider, if_neg (by decide), hpll]
  exact Nat.div_one p.fIn1

/-- Settles O8: the router's reset value, and the clock unit's with the lock input kept. -/
theorem resetOfTheRouterAndOfTheClock : Obligations.ResetOfTheRouterAndOfTheClock := by
  unfold Obligations.ResetOfTheRouterAndOfTheClock
  refine ⟨fun s => ⟨(resetRouter s).returning .nothing, rfl, Router.source_resetValue, rfl, rfl, rfl, onlyRouterChanged_replace s _ _⟩,
    fun s => ⟨(resetClock s).returning .nothing, rfl, resetClock_clock s, fun hinput => ?_, rfl, rfl,
      onlyClockChanged_update (fun c => Clock.resetValue c.pllLocked) [] .nothing s⟩⟩
  exact (derivedClock_resetValue_timer s.cfg s.clock.pllLocked).trans hinput

/-- A timer reset changes nothing but the timer and sends its level, false after it (R454). -/
theorem resetTimer_sent (s : State) : TimerChangedAndSent s ((resetTimer s).returning .nothing) :=
  (besideTimerKept_onTimer (fun _ => Timer.resetValue s.now) s).sent

/-- A UART reset changes nothing but the UART and sends the three levels (R455). -/
theorem resetUart_sent (s : State) : UartChangedAndSent s ((resetUart s).returning .nothing) :=
  (besideUartKept_onUart (fun _ => Uart.resetValue) s).sent

/-- No level is up after a UART reset: FLAGSENABLE is 0 (R332, R455). -/
theorem lineLevel_resetValue (mask : Word) : lineLevel mask Uart.resetValue = false := by
  simp [lineLevel, Uart.resetValue]

/-- Settles O9: the reset value of the timer and of the UART, and the level sends. -/
theorem resetOfTheTimerAndOfTheUart : Obligations.ResetOfTheTimerAndOfTheUart := by
  unfold Obligations.ResetOfTheTimerAndOfTheUart
  refine ⟨fun s => ⟨(resetTimer s).returning .nothing, rfl, resetTimer_timer s, ?_, rfl, resetTimer_diag s, resetTimer_sent s⟩,
    fun s => ⟨(resetUart s).returning .nothing, rfl, ?_⟩⟩
  · have hpending := setLevel_source_same s.cfg.timerSrc false (s.onTimer fun _ => Timer.resetValue s.now)
    exact congrArg Source.pending hpending
  · rw [State.returning_uart, resetUart_uart]
    exact ⟨uartWord_resetValue s.cfg, fun k => Memory.read_nil k.val, rfl, rfl, rfl, rfl, rfl, rfl, lineLevel_resetValue maskRx,
      lineLevel_resetValue maskTx, lineLevel_resetValue maskErr, rfl, rfl, resetUart_emitted s, resetUart_diag s, resetUart_sent s⟩

/-! ### The established dividers (O18) -/

/-- The operations that may change the established dividers: a commit, a reset of the clock unit, a restore (R243, R453, R459, R473). -/
def MayEstablish (i : Instr) (s : State) : Prop :=
  (∃ sz lane data, i = .wrCcuCcucon0 sz lane data ∧ bit 30 (mergeLanes (ccucon0Read s.clock) data lane sz) = false) ∨
    i = .evReset .ccu ∨ i = .evResetAll ∨ ∃ b, i = .evRestore b

/-- What a completed write of a clock register leaves of the clock unit: its write rule's. -/
theorem writeReg_ccu_clock {s t : State} {w : Nat} {sz : Size} {lane : Lane} {data : Word} {cur : State → Word}
    {effect : Word → State → State} (h : writeReg .ccu w sz lane data cur effect s = .next t) :
    t.clock = (effect (mergeLanes (cur s) data lane sz) s).clock := by
  rw [writeReg_eq_next h]
  simp

/-- A clock register whose write rule leaves the dividers alone. -/
theorem est_of_writeReg {s t : State} {w : Nat} {sz : Size} {lane : Lane} {data : Word} {cur : State → Word}
    {effect : Word → State → State} (h : writeReg .ccu w sz lane data cur effect s = .next t)
    (heffect : ∀ v, (effect v s).clock.est = s.clock.est) : t.clock.est = s.clock.est := by
  rw [writeReg_ccu_clock h]
  exact heffect _

/-- A completed CCUCON0 write with merged bit 30 set stores the word and sets the latch (R243). -/
theorem wrCcuCcucon0_latch_clock {s t : State} {sz : Size} {lane : Lane} {data : Word}
    (h : exec (.wrCcuCcucon0 sz lane data) s = .next t) (hlatch : bit 30 (mergeLanes (ccucon0Read s.clock) data lane sz) = true) :
    t.clock = { s.clock with
      ccucon0 := mergeLanes (ccucon0Read s.clock) data lane sz &&& 0x3FFFFFFF#32
      updPending := true } := by
  change execWrCcuCcucon0 sz lane data s = .next t at h
  rw [writeReg_ccu_clock h, writeCcucon0_latch hlatch]
  rfl

/-- A completed CCUCON1 write stores the word and sets the latch (R245). -/
theorem wrCcuCcucon1_clock {s t : State} {sz : Size} {lane : Lane} {data : Word} (h : exec (.wrCcuCcucon1 sz lane data) s = .next t) :
    t.clock = { s.clock with ccucon1 := mergeLanes s.clock.ccucon1 data lane sz, updPending := true } := by
  change execWrCcuCcucon1 sz lane data s = .next t at h
  rw [writeReg_ccu_clock h]
  rfl

/-- Every write of the clock unit, row by row: CCUCON0 alone reaches the dividers, and only with merged bit 30 clear. -/
theorem est_ccu_write {i : Instr} {s t : State} {sz : Size} {off : Offset} (hf : i.form = .bus .write sz .ccu off)
    (h : exec i s = .next t) : t.clock.est = s.clock.est ∨ MayEstablish i s := by
  cases i <;> cases hf
  case wrCcuCcucon0 lane data =>
    cases hbit : bit 30 (mergeLanes (ccucon0Read s.clock) data lane sz)
    · exact .inr (.inl ⟨sz, lane, data, rfl, hbit⟩)
    · rw [wrCcuCcucon0_latch_clock h hbit]
      exact .inl rfl
  case wrCcuUndeclared data =>
    change execWrCcuUndeclared sz off data s = .next t at h
    rw [writeUndeclared_eq_next h]
    exact .inl rfl
  all_goals
    dsimp only [exec, execWrCcuPllstat, execWrCcuPllcon0, execWrCcuPllcon1, execWrCcuCcucon1] at h
    exact .inl (est_of_writeReg h fun _ => rfl)

/-- Every bus access: a read of the clock unit and an access to another unit leave the clock unit alone (R90). -/
theorem est_bus {i : Instr} {s t : State} {d : Dir} {sz : Size} {u : UnitId} {off : Offset} (hf : i.form = .bus d sz u off)
    (h : exec i s = .next t) : t.clock.est = s.clock.est ∨ MayEstablish i s := by
  by_cases hu : u = .ccu
  · subst hu
    cases d with
    | read =>
      obtain ⟨hclock, _⟩ := readsHaveOnlyTheListedSideEffects i s t sz .ccu off hf h
      exact .inl (congrArg Clock.est hclock)
    | write => exact est_ccu_write hf h
  · obtain ⟨hclock, _⟩ := anAccessReachesOnlyItsUnitAndTheRouter i s t d sz u off hf h
    exact .inl (congrArg Clock.est (hclock hu))

/-- Every operation that completes leaves the established dividers alone, or may establish them. -/
theorem exec_est {i : Instr} {s t : State} (h : exec i s = .next t) : t.clock.est = s.clock.est ∨ MayEstablish i s := by
  cases completed_of_exec h with
  | bus hf => exact est_bus hf h
  | reset u =>
    cases u with
    | ccu => exact .inr (.inr (.inl rfl))
    | ir | stm | uart => exact .inl (by simp [resetUnit])
  | resetAll => exact .inr (.inr (.inr (.inl rfl)))
  | time | lock | snapshot => exact .inl rfl
  | alarm | rx | writable | level => exact .inl (by simp)
  | restore b => exact .inr (.inr (.inr (.inr ⟨b, rfl⟩)))

/-- The frequencies read neither CCUCON0 nor the latch, and of CCUCON1 only INSEL (R230 to R233). -/
theorem derivedClock_congr (p : Params) {c c' : Clock} (hpll0 : c'.pllcon0 = c.pllcon0) (hpll1 : c'.pllcon1 = c.pllcon1)
    (hinsel : insel c' = insel c) (hrun : c'.findis = c.findis) (hlock : c'.pllLocked = c.pllLocked) (hest : c'.est = c.est)
    (d : Domain) : derivedClock p c' d = derivedClock p c d := by
  have hmode : clockMode c' = clockMode c := by simp only [clockMode, hpll0, hrun, hlock]
  have hosc : oscillatorFrequency p c' = oscillatorFrequency p c := by simp only [oscillatorFrequency, hinsel]
  have hpll : pllFrequency p c' = pllFrequency p c := by
    simp only [pllFrequency, hmode, hosc, factorN, factorP, factorK1, factorK2, hpll0, hpll1]
  rw [derivedClock, derivedClock, hpll, hest]

/-- Settles O18: the dividers operation by operation, the frequencies by what they read. -/
theorem dividersAreEstablishedOnlyByACommit : Obligations.DividersAreEstablishedOnlyByACommit := by
  unfold Obligations.DividersAreEstablishedOnlyByACommit
  refine ⟨fun i s t h => exec_est h, fun s t sz lane data h hinsel d => ?_, fun s t sz lane data h hlatch d => ?_⟩
  · obtain ⟨_, hcfg, _⟩ := noOperationWritesGuestMemory _ s t h
    have hclock := wrCcuCcucon1_clock h
    have hsame : insel t.clock = insel s.clock := by rw [hclock]; exact hinsel
    rw [hcfg]
    refine derivedClock_congr s.cfg ?_ ?_ hsame ?_ ?_ ?_ d <;> rw [hclock]
  · obtain ⟨_, hcfg, _⟩ := noOperationWritesGuestMemory _ s t h
    have hclock := wrCcuCcucon0_latch_clock h hlatch
    have hsame : insel t.clock = insel s.clock := by rw [hclock]; rfl
    rw [hcfg]
    refine derivedClock_congr s.cfg ?_ ?_ hsame ?_ ?_ ?_ d <;> rw [hclock]

/-! ### Narrow source writes (O27) -/

theorem sourceWord_toNat (x : Source) : (sourceWord x).toNat =
    x.prio.toNat + (if x.enabled then 0x400 else 0) + (if x.pending then 0x1000000 else 0) := by
  have hprio := x.prio.isLt
  rw [sourceWord, BitVec.toNat_ofNat]
  apply Nat.mod_eq_of_lt
  split <;> split <;> omega

/-- A byte of a word as a number. -/
theorem extractByte_toNat (v : Word) (lo : Nat) : (v.extractLsb' lo 8).toNat = v.toNat / 2 ^ lo % 256 := by
  rw [BitVec.extractLsb'_toNat, Nat.shiftRight_eq_div_pow]

/-- Byte 0 of a source word is SRPN (R121). -/
theorem sourceWord_byte0 (x : Source) : (sourceWord x).extractLsb' 0 8 = x.prio := by
  apply BitVec.eq_of_toNat_eq
  have hprio := x.prio.isLt
  rw [extractByte_toNat, sourceWord_toNat]
  split <;> split <;> omega

/-- Byte 1 of a source word holds the enable alone, at bit 10 (R121). -/
theorem sourceWord_byte1 (x : Source) : (sourceWord x).extractLsb' 8 8 = if x.enabled then 4#8 else 0#8 := by
  apply BitVec.eq_of_toNat_eq
  have hprio := x.prio.isLt
  rw [extractByte_toNat, sourceWord_toNat]
  cases x.enabled <;> simp only [Bool.false_eq_true, if_true, if_false, BitVec.toNat_ofNat] <;> split <;> omega

/-- Byte 3 of a source word holds the pending bit alone, at bit 24 (R121). -/
theorem sourceWord_byte3 (x : Source) : (sourceWord x).extractLsb' 24 8 = if x.pending then 1#8 else 0#8 := by
  apply BitVec.eq_of_toNat_eq
  have hprio := x.prio.isLt
  rw [extractByte_toNat, sourceWord_toNat]
  cases x.pending <;> simp only [Bool.false_eq_true, if_true, if_false, BitVec.toNat_ofNat] <;> split <;> omega

/-- The priority number a source write stores is byte 0 of the word (R206). -/
theorem configureSource_prio_of_byte {v : Word} {x : Source} (h : v.extractLsb' 0 8 = (sourceWord x).extractLsb' 0 8) :
    (configureSource v x).prio = x.prio := h.trans (sourceWord_byte0 x)

/-- ENCMD lies in byte 1; the byte as read back commands what the enable is already: setEnabled where it is set, else nothing (R206). -/
theorem configureSource_enabled_of_byte {v : Word} {x : Source} (h : v.extractLsb' 8 8 = (sourceWord x).extractLsb' 8 8) :
    (configureSource v x).enabled = x.enabled := by
  have hencmd : bits 10 9 v = (v.extractLsb' 8 8).toNat / 2 % 4 := by
    rw [bits, extractByte_toNat]
    omega
  rw [h, sourceWord_byte1] at hencmd
  rw [configureSource, commandEnabled, hencmd]
  cases x.enabled <;> rfl

/-- CLRR and SETR lie in byte 3 and read 0: the byte as read back neither clears nor sets (R205, R206). -/
theorem configureSource_pending_of_byte {v : Word} {x : Source} (h : v.extractLsb' 24 8 = (sourceWord x).extractLsb' 24 8) :
    (configureSource v x).pending = x.pending := by
  have hbit (k : Nat) (hk : k < 8) : bit (24 + k) v = (if x.pending then 1#8 else 0#8).getLsbD k := by
    rw [← sourceWord_byte3, ← h, BitVec.getLsbD_extractLsb', bit]
    simp [hk]
  rw [configureSource, hbit 1 (by decide), hbit 2 (by decide)]
  cases x.pending <;> rfl

/-- The sources after a completed write of a source word (R206). -/
theorem exec_wrIrSrc_source {s t : State} {i : SourceIndex} {sz : Size} {lane : Lane} {data : Word}
    (h : exec (.wrIrSrc i sz lane data) s = .next t) (j : SourceIndex) :
    t.router.source j =
      if j = i then configureSource (mergeLanes (sourceWord (s.router.source i)) data lane sz) (s.router.source i)
      else s.router.source j := by
  change execWrIrSrc i sz lane data s = .next t at h
  obtain ⟨hsrc, _⟩ := evaluate_setSource_evaluated s i (configureSource (mergeLanes (sourceWord (s.router.source i)) data lane sz))
  rw [writeReg_eq_next h, srcRead_eq]
  exact hsrc j

/-- A field of the source slots that the write of byte `k` alone could change is kept by a write that leaves the byte's lane alone. -/
theorem wrIrSrc_keeps_field {α : Type} {field : Source → α} {k : Nat} (hk : k < 4)
    (hfield : ∀ {v : Word} {x : Source}, v.extractLsb' (8 * k) 8 = (sourceWord x).extractLsb' (8 * k) 8 →
      field (configureSource v x) = field x)
    {s t : State} {i : SourceIndex} {sz : Size} {lane : Lane} {data : Word} (h : exec (.wrIrSrc i sz lane data) s = .next t)
    (hlane : ¬ (lane.val ≤ k ∧ k < lane.val + sizeBytes sz)) (j : SourceIndex) :
    field (t.router.source j) = field (s.router.source j) := by
  rw [exec_wrIrSrc_source h j]
  split
  · next hj =>
    subst hj
    exact hfield (by rw [mergeLanes_extractByte _ _ _ _ _ hk, if_neg hlane])
  · rfl

/-- Settles O27: the enable, the pending bit and the priority number by the byte they lie in. -/
theorem narrowSourceWritesKeepTheEnable : Obligations.NarrowSourceWritesKeepTheEnable := by
  unfold Obligations.NarrowSourceWritesKeepTheEnable
  intro s t i sz lane data h
  exact ⟨fun hlane => wrIrSrc_keeps_field (k := 1) (by decide) configureSource_enabled_of_byte h (by omega),
    fun hlane => wrIrSrc_keeps_field (k := 3) (by decide) configureSource_pending_of_byte h (by omega),
    fun hlane => wrIrSrc_keeps_field (k := 0) (by decide) configureSource_prio_of_byte h (by omega)⟩

/-! ### Snapshot and restore (O59) -/

/-- `evaluate()` keeps the sources, makes the output agree, and holds the priority number where no source qualifies (R202). -/
theorem evaluate_evaluated (s : State) : RouterEvaluated s (evaluate s) s.router.source := by
  refine ⟨evaluate_source s, evaluate_agrees s, fun hno => ?_⟩
  exact (evaluate_holds_cpuPrio s fun j hj => hno j ((sourceQualifies_evaluate s j).mpr hj)).1

/-- Where the output agrees with the sources `evaluate()` changes nothing (R202, R204). -/
theorem evaluate_of_agrees {s : State} (h : RouterOutputAgrees s) : evaluate s = s := by
  obtain ⟨hline, hprio⟩ := h
  have hrouter : arbitrate s.cfg s.router = s.router := by
    unfold arbitrate
    split
    · next x hw =>
      obtain ⟨i, hlow, hx⟩ := winner_eq_some s x hw
      rw [← hx, ← hprio i hlow, ← hline.mpr ⟨i, hlow.1⟩]
    · next hw =>
      have hlowered : s.router.line = false := by
        rw [← Bool.not_eq_true, hline, not_exists]
        exact winner_eq_none s hw
      rw [← hlowered]
  rw [evaluate, hrouter]

/-- A restore before its `evaluate()`: the blob in the place of the architectural state, the retry armed where an item is pending (R473). -/
def replaceBlock (b : Block) (s : State) : State :=
  { s with toBlock := { b with uart := { b.uart with retryArmed := b.uart.retryArmed || b.uart.txPend.isSome } } }

/-- RESTORE takes every blob of a snapshot's form (R473; log 13). -/
theorem exec_evRestore {b : Block} {s : State} (hb : b.snapshotForm s.cfg = true) :
    exec (.evRestore b) s = .next ((evaluate (replaceBlock b s)).returning .nothing) := if_pos hb

/-- Restoring a blob whose retry latch agrees with its transmit slot changes nothing of the blob before `evaluate()`. -/
theorem replaceBlock_toBlock {b : Block} (h : RetryAgrees b.uart) (s : State) : (replaceBlock b s).toBlock = b := by
  have hretry : (b.uart.retryArmed || b.uart.txPend.isSome) = b.uart.retryArmed := by rw [← h, Bool.or_self]
  rw [replaceBlock, hretry]

/-- A state that holds both invariants restores to its own architectural state under the same parameters. -/
theorem restore_toBlock {s s' : State} (hcfg : s'.cfg = s.cfg) (hform : FormParts s) (hagrees : RouterOutputAgrees s) :
    (evaluate (replaceBlock s.toBlock s')).toBlock = s.toBlock := by
  have hblock := replaceBlock_toBlock hform.retry s'
  have hreplaced : RouterOutputAgrees (replaceBlock s.toBlock s') := hagrees.of_router_eq hcfg (congrArg Block.router hblock)
  rw [evaluate_of_agrees hreplaced, hblock]

/-- Settles O59: a restore is the blob's state and `evaluate()`, which a snapshot of an agreeing state does not need. -/
theorem snapshotAndRestore : Obligations.SnapshotAndRestore := by
  unfold Obligations.SnapshotAndRestore
  refine ⟨fun _ => rfl, fun s b hb => ?_, fun s s' t hcfg hform hagrees h => ?_⟩
  · obtain ⟨hsrc, hagrees, hheld⟩ := (evaluate_evaluated (replaceBlock b s)).returning .nothing
    exact ⟨_, exec_evRestore hb, rfl, rfl, rfl, rfl, rfl, hsrc, hagrees, hheld, rfl, rfl, rfl, rfl, rfl⟩
  · have hparts := (storedFormHolds_iff s).mp hform
    obtain ⟨hsnapshot, _⟩ := hform
    rw [exec_evRestore (hcfg ▸ hsnapshot)] at h
    cases h
    exact restore_toBlock hcfg hparts hagrees

end Sys2Proof.Machine
end
